-- ==== Sys2Proof/Word.lean ====
section
/-! DEFINITION. The word types of the block (spec 00_scope.md rules R5 to R7): one name for each width
the spec fixes. Bit 0 is the least significant bit of every value (R6). -/

namespace Sys2Proof

/-- A byte of a wire frame or of a device register (R6). -/
abbrev Byte := BitVec 8

/-- A sample register and a buffer entry, `XLEN` = 32 bits, two's complement (R5, R21, R29). -/
abbrev Sample := BitVec 32

/-- A value of `TIME` or `WINDOW_START`, `TIMEW` = 32 bits, unsigned (R5, R30). -/
abbrev Ticks := BitVec 32

/-- The edge counter, `CNTW` = 32 bits, unsigned (R5, R22). -/
abbrev EdgeCount := BitVec 32

/-- `CAP` and `COUNT`, `CAPW` = 15 bits, unsigned (R5, R26, R27). -/
abbrev Capacity := BitVec 15

/-- `HEAD`, `IDXW` = 14 bits, unsigned (R5, R27). -/
abbrev BufIndex := BitVec 14

/-- `SUM`, `SUMW` = 48 bits, two's complement (R5, R28). -/
abbrev RunningSum := BitVec 48

/-- A device register address, `ADDR_BITS` = 5 bits (R5, R62). -/
abbrev RegAddr := BitVec 5

/-- A host command word, `op` in bits 39:32 and `arg` in bits 31:0 (R90). -/
abbrev CommandWord := BitVec 40

/-- The `data` half of a response (R94). -/
abbrev Data := BitVec 64

end Sys2Proof
end

