-- ==== Sys2Proof/Config.lean ====
section
/-! DEFINITION. The configuration of the block (spec 00_scope.md rule R5) in one record, `Params`, and the device
oracle behind the exchange primitive (20_memory.md rules R66 and R67), which nothing constrains. -/

namespace Sys2Proof

/-- The six device registers D0 names (R36). -/
inductive DeviceReg where
  | id
  | status
  | mode0
  | mode1
  | inpmux
  | pga
  deriving DecidableEq, Repr

/-- `MODE_CODE`: the 2-bit codes of the four acquisition modes (R5, R191, decision D28). -/
structure ModeCodes where
  normal : BitVec 2
  chop : BitVec 2
  twoWireAc : BitVec 2
  fourWireAc : BitVec 2
  deriving DecidableEq, Repr

/-- The configuration record of R5. Its fields are the parameters R5 marks OPEN and those the decisions make fields
that may change (the time base, D18, and the mode codes, D28). A parameter whose value R5 fixes for good stands
below under the record's name, with that value in every record (log entry 6); so every row of R5 is read as
`p.<name>`. The valid code sets are lists without repeats (`Params.wf`). -/
structure Params where
  /-- `TICK_HZ`: ticks of `TIME` per second. -/
  tickHz : Ticks
  /-- `WINDOW_TICKS`: length of the calibration window. -/
  windowTicks : Ticks
  /-- `SETTLE_TICKS`: settle delay after the calibration command. -/
  settleTicks : Ticks
  /-- `MODE_CODE`. -/
  modeCodes : ModeCodes
  /-- `BUS_CAN_FAIL`: whether the exchange primitive may report failure (R66). -/
  busCanFail : Bool
  /-- `ADDR_ID`. -/
  addrId : RegAddr
  /-- `ADDR_STATUS`. -/
  addrStatus : RegAddr
  /-- `ADDR_MODE0`. -/
  addrMode0 : RegAddr
  /-- `ADDR_MODE1`. -/
  addrMode1 : RegAddr
  /-- `ADDR_INPMUX`. -/
  addrInpmux : RegAddr
  /-- `ADDR_PGA`. -/
  addrPga : RegAddr
  /-- `DR_VALID`: the data-rate codes that name a rate (R38). -/
  drValid : List (BitVec 4)
  /-- `MUX_VALID`: the selector codes that name a channel (R39). -/
  muxValid : List (BitVec 4)
  deriving DecidableEq, Repr

/-- The numeric address of a named device register (R36, R63). -/
def Params.addr (p : Params) : DeviceReg → RegAddr
  | .id => p.addrId
  | .status => p.addrStatus
  | .mode0 => p.addrMode0
  | .mode1 => p.addrMode1
  | .inpmux => p.addrInpmux
  | .pga => p.addrPga

namespace Params

/-- `XLEN`: the width of `Sample`. -/
def xlen (_ : Params) : Nat := 32
/-- `SAMPLE_BITS`: the width of a sample on the wire. -/
def sampleBits (_ : Params) : Nat := 24
/-- `ADDR_BITS`: the width of `RegAddr`. -/
def addrBits (_ : Params) : Nat := 5
/-- `CAPW`: the width of `Capacity`. -/
def capw (_ : Params) : Nat := 15
/-- `IDXW`: the width of `BufIndex`. -/
def idxw (_ : Params) : Nat := 14
/-- `SUMW`: the width of `RunningSum`. -/
def sumw (_ : Params) : Nat := 48
/-- `TIMEW`: the width of `Ticks`. -/
def timew (_ : Params) : Nat := 32
/-- `CNTW`: the width of `EdgeCount`. -/
def cntw (_ : Params) : Nat := 32
/-- `RREG_BASE`. -/
def rregBase (_ : Params) : Byte := 0x20
/-- `WREG_BASE`. -/
def wregBase (_ : Params) : Byte := 0x40
/-- `OP_RDATA`. -/
def opRdata (_ : Params) : Byte := 0x12
/-- `OP_SFOCAL`. -/
def opSfocal (_ : Params) : Byte := 0x19
/-- `PAD_BYTE` (R97). -/
def padByte (_ : Params) : Byte := 0x00
/-- `MAXCAP`. -/
def maxCap (_ : Params) : Nat := 16384
/-- `INVALID` as a byte (decision D32). -/
def invalidByte (_ : Params) : Byte := 0xFF

end Params

/-- What the device answers to one exchange: the outcome and the bytes it drives, of which the first `n` are
received in a frame of `n ≤ 6` bytes (R66). -/
structure Answer where
  ok : Bool
  bytes : Vector Byte 6
  deriving DecidableEq, Repr, Inhabited

/-- One event of the bus trace (R33). `xfer tx rx` is the rule's `Xfer(tx, ok, rx)`: `rx` is `none` exactly when
`ok` is false, since the received bytes of a failed exchange hold no value (R66). -/
inductive BusEvent where
  | startLow
  | startHigh
  | xfer (tx : List Byte) (rx : Option (List Byte))
  deriving DecidableEq, Repr

namespace Config

/-- The device, as the block sees it: any answer at all to a frame, given the whole bus trace so far (R66, R67;
DESIGN CHOICE, log entry 2). A free value: it has no body, so no proof can see what the device answers. It is
asked only when no answer of an input script is at hand (`Machine.State.answers`). -/
opaque oracle : List BusEvent → List Byte → Answer

/-- One configuration record, used for the reset state alone: the values R5 gives the time base and the mode codes,
the spec's default code sets, the addresses of 93_implementation_defined.md G2, and exchanges that may fail
(PRESUMED and DESIGN CHOICE, log entry 3). No statement rests on it. -/
def defaultParams : Params where
  tickHz := 1000
  windowTicks := 1000
  settleTicks := 100
  modeCodes := ⟨0, 1, 2, 3⟩
  busCanFail := true
  addrId := 0x00
  addrStatus := 0x01
  addrMode0 := 0x02
  addrMode1 := 0x03
  addrInpmux := 0x11
  addrPga := 0x10
  drValid := [0, 1, 2, 3, 4, 5, 6, 7, 8, 9, 10, 11, 12]
  muxValid := [0, 1, 2, 3, 4, 5]

end Config

end Sys2Proof
end

