-- ==== Sys2Proof/Syntax.lean ====
section
/-! DEFINITION. The eighteen host commands of the operation map (spec 30_encoding.md rule R96), one constructor
for each row of opcode_table.json. The three event steps (R160 to R162) are not commands: they are inputs of
`Machine.step`. -/

namespace Sys2Proof

/-- A host command with its operands as R91 and R93 cut them out of the command word. Every operand is a bit
field of exactly the width the format gives it, so every term is well formed: an address above `0x1F` "cannot
be expressed in a command word" (R62). -/
inductive Instr where
  /-- `RDATA`: raw-sample read by the host (R122). -/
  | rdata
  /-- `SFOCAL`: calibration command (R123). -/
  | sfocal
  /-- `RREG addr`: register read (R120). -/
  | rreg (addr : RegAddr)
  /-- `WREG addr, value`: register write (R121). -/
  | wreg (addr : RegAddr) (value : Byte)
  /-- `MAV_CREATE cap`: create and install a buffer (R140). -/
  | mavCreate (cap : BitVec 32)
  /-- `MAV_ADD v`: push one sample (R142). -/
  | mavAdd (v : Sample)
  /-- `MAV_AVG`: read the mean (R143). -/
  | mavAvg
  /-- `MAV_CLEAR`: empty the buffer (R144). -/
  | mavClear
  /-- `MAV_SNAP`: read sum and count together (R145). -/
  | mavSnap
  /-- `WIN_OPEN`: open the calibration window (R163). -/
  | winOpen
  /-- `WIN_POLL`: is the window still open (R164). -/
  | winPoll
  /-- `GET_LAST`: read the last raw sample (R167). -/
  | getLast
  /-- `GET_COUNT`: read the edge counter (R168). -/
  | getCount
  /-- `GET_STATUS`: read the status view (R169). -/
  | getStatus
  /-- `CLR_STATUS`: clear the sticky bits (R170). -/
  | clrStatus
  /-- `IRQ_EN`: enable the data-ready interrupt (R171). -/
  | irqEn
  /-- `IRQ_DIS`: disable the data-ready interrupt (R172). -/
  | irqDis
  /-- `GET_TIME`: read the time (R173). -/
  | getTime
  deriving DecidableEq, Repr

end Sys2Proof
end

