-- ==== Sys2Proof/Decode.lean ====
section
/-! DEFINITION. The host command encoding (spec 30_encoding.md rules R90 to R93, R96, R100): the operation map,
a decoder total on every 40-bit word that rejects by name, and the encoder. -/

namespace Sys2Proof

/-- A row of the operation map: the command words `w` with `w and mask = pattern` (R92, R96). -/
structure OpRow where
  mnemonic : String
  pattern : CommandWord
  mask : CommandWord
  deriving DecidableEq, Repr

/-- The operation map of R96, row by row. -/
def opcodeTable : List OpRow :=
  [⟨"RDATA", 0x1200000000, 0xFFFFFFFFFF⟩, ⟨"SFOCAL", 0x1900000000, 0xFFFFFFFFFF⟩,
   ⟨"RREG", 0x2000000000, 0xE0FFFFFFFF⟩, ⟨"WREG", 0x4000000000, 0xE0FFFFFF00⟩,
   ⟨"MAV_CREATE", 0x8000000000, 0xFF00000000⟩, ⟨"MAV_ADD", 0x8100000000, 0xFF00000000⟩] ++
  [⟨"MAV_AVG", 0x8200000000, 0xFFFFFFFFFF⟩, ⟨"MAV_CLEAR", 0x8300000000, 0xFFFFFFFFFF⟩,
   ⟨"MAV_SNAP", 0x8400000000, 0xFFFFFFFFFF⟩, ⟨"WIN_OPEN", 0x9000000000, 0xFFFFFFFFFF⟩,
   ⟨"WIN_POLL", 0x9100000000, 0xFFFFFFFFFF⟩, ⟨"GET_LAST", 0x9200000000, 0xFFFFFFFFFF⟩] ++
  [⟨"GET_COUNT", 0x9300000000, 0xFFFFFFFFFF⟩, ⟨"GET_STATUS", 0x9400000000, 0xFFFFFFFFFF⟩,
   ⟨"CLR_STATUS", 0x9500000000, 0xFFFFFFFFFF⟩, ⟨"IRQ_EN", 0x9600000000, 0xFFFFFFFFFF⟩,
   ⟨"IRQ_DIS", 0x9700000000, 0xFFFFFFFFFF⟩, ⟨"GET_TIME", 0x9800000000, 0xFFFFFFFFFF⟩]

/-- The mnemonic of a command, as R96 spells it. -/
def Instr.mnemonic : Instr → String
  | .rdata => "RDATA"
  | .sfocal => "SFOCAL"
  | .rreg _ => "RREG"
  | .wreg _ _ => "WREG"
  | .mavCreate _ => "MAV_CREATE"
  | .mavAdd _ => "MAV_ADD"
  | .mavAvg => "MAV_AVG"
  | .mavClear => "MAV_CLEAR"
  | .mavSnap => "MAV_SNAP"
  | .winOpen => "WIN_OPEN"
  | .winPoll => "WIN_POLL"
  | .getLast => "GET_LAST"
  | .getCount => "GET_COUNT"
  | .getStatus => "GET_STATUS"
  | .clrStatus => "CLR_STATUS"
  | .irqEn => "IRQ_EN"
  | .irqDis => "IRQ_DIS"
  | .getTime => "GET_TIME"

/-- `op = w[39:32]` (R90). -/
def opField (w : CommandWord) : Byte := w.extractLsb' 32 8

/-- `arg = w[31:0]`, the `imm` of format I (R90, R93). -/
def argField (w : CommandWord) : BitVec 32 := w.extractLsb' 0 32

/-- `w[39:37]`, the prefix that formats R and W fix (R91). -/
def prefixField (w : CommandWord) : BitVec 3 := w.extractLsb' 37 3

/-- `addr = w[36:32]` (R93). -/
def addrField (w : CommandWord) : RegAddr := w.extractLsb' 32 5

/-- `value = w[7:0]` (R93). -/
def valueField (w : CommandWord) : Byte := w.extractLsb' 0 8

/-- `w[31:8]`, which format W requires to be 0 (R91). -/
def writeHighField (w : CommandWord) : BitVec 24 := w.extractLsb' 8 24

/-- Why a command word is illegal: the three cases of R100. -/
inductive IllegalWord where
  /-- R100(a): the `op` byte is outside the operation map. -/
  | unlistedOp
  /-- R100(b): a format-N or format-R command with `arg ≠ 0`. -/
  | nonzeroArg
  /-- R100(c): a format-W command with `arg[31:8] ≠ 0`. -/
  | nonzeroArgHigh
  deriving DecidableEq, Repr

/-- The format-N commands and their `op` bytes (R91, R96). -/
def noOperandOps : List (Byte × Instr) :=
  [(0x12, .rdata), (0x19, .sfocal), (0x82, .mavAvg), (0x83, .mavClear), (0x84, .mavSnap), (0x90, .winOpen),
   (0x91, .winPoll), (0x92, .getLast), (0x93, .getCount), (0x94, .getStatus), (0x95, .clrStatus),
   (0x96, .irqEn), (0x97, .irqDis), (0x98, .getTime)]

/-- A format-N command: legal only with `arg = 0` (R91, R100). -/
def decodeNoOperand (op : Byte) (arg : BitVec 32) : Except IllegalWord Instr :=
  match noOperandOps.lookup op with
  | some i => if arg = 0 then .ok i else .error .nonzeroArg
  | none => .error .unlistedOp

/-- The decoder (R92): total on every command word, reading no state of the block. -/
def decode (w : CommandWord) : Except IllegalWord Instr :=
  if prefixField w = 0b001 then
    if argField w = 0 then .ok (.rreg (addrField w)) else .error .nonzeroArg
  else if prefixField w = 0b010 then
    if writeHighField w = 0 then .ok (.wreg (addrField w) (valueField w)) else .error .nonzeroArgHigh
  else if opField w = 0x80 then .ok (.mavCreate (argField w))
  else if opField w = 0x81 then .ok (.mavAdd (argField w))
  else decodeNoOperand (opField w) (argField w)

/-- A command word from its `op` byte and its `arg` (R90). -/
def commandWord (op : Byte) (arg : BitVec 32) : CommandWord := op ++ arg

/-- The encoder, from the formats of R91 and the `op` bytes of R96. -/
def encode : Instr → CommandWord
  | .rdata => commandWord 0x12 0
  | .sfocal => commandWord 0x19 0
  | .rreg addr => commandWord ((0b001 : BitVec 3) ++ addr) 0
  | .wreg addr value => commandWord ((0b010 : BitVec 3) ++ addr) ((0 : BitVec 24) ++ value)
  | .mavCreate cap => commandWord 0x80 cap
  | .mavAdd v => commandWord 0x81 v
  | .mavAvg => commandWord 0x82 0
  | .mavClear => commandWord 0x83 0
  | .mavSnap => commandWord 0x84 0
  | .winOpen => commandWord 0x90 0
  | .winPoll => commandWord 0x91 0
  | .getLast => commandWord 0x92 0
  | .getCount => commandWord 0x93 0
  | .getStatus => commandWord 0x94 0
  | .clrStatus => commandWord 0x95 0
  | .irqEn => commandWord 0x96 0
  | .irqDis => commandWord 0x97 0
  | .getTime => commandWord 0x98 0

/-- The command word whose low `nbits` bits are `w` and whose other bits are 0, when it is a word of 40 bits. A
command word is a value and not a byte sequence (R65), so its bits are numbered as R90 numbers them. -/
def tableCommandWord (nbits w : Nat) : Option CommandWord :=
  if w % 2 ^ nbits < 2 ^ 40 then some (BitVec.ofNat 40 (w % 2 ^ nbits)) else none

/-- The decoder on a word given as opcode_table.json numbers its bits. -/
def decodeTableWord (nbits w : Nat) : Option Instr :=
  match tableCommandWord nbits w with
  | some v => (decode v).toOption
  | none => none

end Sys2Proof
end

