-- ==== Sys2Proof/Machine/State.lean ====
section
/-! DEFINITION. The state of the block (spec 10_state.md rules R20 to R34), the inputs that drive it and the
responses it gives, the reasons a step can stop, and the state after reset (70_reset_and_hazards.md rule R260). -/

namespace Sys2Proof.Machine

/-- The buffer space `BUF[0..16383]` (R29, R60(b)): the entries something has written, by index, as a list with
strictly rising indices (`Memory.wf`). An index that is not listed holds no value (R29, U20; log entry 5). -/
abbrev Memory := List (Nat × Sample)

/-- One input: the choice of which agent takes the next step (R70). -/
inductive Input where
  /-- The host issues one command word (R90). -/
  | command (w : CommandWord)
  /-- A data-ready edge arrives (`EDGE`, R160). -/
  | edge
  /-- The interrupt path services the pending edge (`EDGE_SERVICE`, R161). -/
  | service
  /-- Time advances by one tick (`TICK`, R162). -/
  | tick
  deriving DecidableEq, Repr

/-- The response that ends a host command (R94). -/
structure Response where
  st : BitVec 8
  data : Data
  deriving DecidableEq, Repr

/-- The faults of host commands (R221), each delivered as the status code of a response (`HostFault.code`), never
as a stop of the machine. -/
inductive HostFault where
  /-- Decode found no row (R100). -/
  | illegalCommand
  /-- `MAV_CREATE` with `cap = 0` (R140). -/
  | invalidCapacity
  /-- `MAV_CREATE` with `cap > MAXCAP` (R140). -/
  | capacityExceeded
  /-- A buffer command with no active buffer (R142 to R145). -/
  | noBuffer
  /-- A codec command whose exchange failed (R120 to R123). -/
  | busError
  deriving DecidableEq, Repr

/-- The state of the block (R20), then the four fields that are the model's own (see INVENTORY.md): the parameters
R20 says are not state of the block but of its step relation (the configuration record, the device, the order
of steps) and the responses given. -/
structure State where
  /-- `LAST_SAMPLE` (R21). -/
  lastSample : Sample
  /-- `EDGE_COUNT` (R22). -/
  edgeCount : EdgeCount
  /-- `WINDOW_START` (R23). -/
  windowStart : Ticks
  /-- `BUF_VALID` (R25). -/
  bufValid : Bool
  /-- `CAP` (R26). -/
  cap : Capacity
  /-- `HEAD` (R27). -/
  head : BufIndex
  /-- `COUNT` (R27). -/
  count : Capacity
  /-- `SUM` (R28). -/
  sum : RunningSum
  /-- `BUF` (R29). -/
  buf : Memory
  /-- `TIME`, state of the environment that the block reads (R20, R30). -/
  time : Ticks
  /-- `WIN_ARMED` (R31). -/
  winArmed : Bool
  /-- `EDGE_EN` (R32). -/
  edgeEn : Bool
  /-- `EDGE_PENDING` (R32). -/
  edgePending : Bool
  /-- `EDGE_OVERRUN` (R32). -/
  edgeOverrun : Bool
  /-- `BUS_ERR` (R32). -/
  busErr : Bool
  /-- `LAST_VALID` (R32). -/
  lastValid : Bool
  /-- `START`, true = high (R33). -/
  start : Bool
  /-- `TRACE`, oldest event first (R33). -/
  trace : List BusEvent
  /-- The model's own: the configuration record of R5. No step changes it. -/
  params : Params
  /-- The model's own: the answers the device will give to the next exchanges, the next one first. When the list
  is empty, `Config.oracle` answers (R66). -/
  answers : List Answer
  /-- The model's own: the schedule of R70, the next input first. -/
  inputs : List Input
  /-- The model's own: the responses given to the host, oldest first (R94). -/
  responses : List Response
  deriving DecidableEq, Repr

/-- Why the machine stops. -/
inductive Fault where
  /-- Raised by `MavAdd` (R141), so by `MAV_ADD` and `EDGE_SERVICE`, when it would evict an entry that holds no value
  (R29: "no rule reads it"; U20 lets a model fault there). Safe: no state that keeps `BlockInv` raises it. -/
  | unfilledEntryRead
  deriving DecidableEq, Repr

/-- Why a step has no meaning. -/
inductive Refusal where
  /-- An instruction without a meaning yet. No arm of `exec` answers it. -/
  | notModelled (mnemonic : String)
  /-- The schedule names `EDGE_SERVICE` while `EDGE_PENDING = 0`: the step is not enabled (R161), so the schedule
  is none of the block's. Safe: the block has no such step. -/
  | serviceNotEnabled
  deriving DecidableEq, Repr

/-- The state after reset (R260) with the parameters and the value of `TIME` that the spec leaves open there:
`TIME` is "unspecified (environment)". -/
def State.resetWith (p : Params) (t : Ticks) : State where
  lastSample := 0
  edgeCount := 0
  windowStart := 0
  bufValid := false
  cap := 0
  head := 0
  count := 0
  sum := 0
  buf := []
  time := t
  winArmed := false
  edgeEn := false
  edgePending := false
  edgeOverrun := false
  busErr := false
  lastValid := false
  start := true
  trace := []
  params := p
  answers := []
  inputs := []
  responses := []

/-- The state after reset, at `TIME = 0` (DESIGN CHOICE, log entry 4) and with the default parameters (log
entry 3). -/
def State.reset : State := State.resetWith Config.defaultParams 0

end Sys2Proof.Machine
end

