-- ==== Sys2Proof/Machine/Flags.lean ====
section
/-! DEFINITION. The values the block computes from its status bits and its time: the window predicate (spec
10_state.md rule R31) and the status view (R34). -/

namespace Sys2Proof.Machine

/-- `in_window(now)` (R31): the window is armed and fewer than `WINDOW_TICKS` ticks have passed since it was
opened, the subtraction modulo 2^32 and the comparison unsigned. -/
def State.inWindow (s : State) : Bool :=
  s.winArmed && decide (s.time - s.windowStart < s.params.windowTicks)

/-- `STATUS[30:16]`: the capacity of the active buffer, 0 if there is none (R34). -/
def State.capacityField (s : State) : Capacity := if s.bufValid then s.cap else 0

/-- `STATUS[7:0]` (R34). -/
def State.flagByte (s : State) : Byte :=
  BitVec.ofBool s.lastValid ++ BitVec.ofBool s.busErr ++ BitVec.ofBool s.edgeOverrun ++ BitVec.ofBool s.start ++
    BitVec.ofBool s.edgePending ++ BitVec.ofBool s.edgeEn ++ BitVec.ofBool s.winArmed ++ BitVec.ofBool s.bufValid

/-- The status view `STATUS` (R34): bit 31 and bits 15:8 read as 0. -/
def State.status (s : State) : BitVec 32 :=
  (0 : BitVec 1) ++ s.capacityField ++ (0 : Byte) ++ s.flagByte

end Sys2Proof.Machine
end

