-- ==== Sys2Proof/Machine/Operands.lean ====
section
/-! DEFINITION. Operand and result forms: the wire frames with their opcode bytes (spec 30_encoding.md rules R97,
R98), the sample assembled from a response, extensions, saturation and the quotient (00_scope.md rule R7). -/

namespace Sys2Proof.Machine

/-- `0x20 + addr` as an 8-bit sum (R98(a)). -/
def readOpcode (p : Params) (addr : RegAddr) : Byte := p.rregBase + addr.setWidth 8

/-- `0x40 + addr` as an 8-bit sum (R98(a)). -/
def writeOpcode (p : Params) (addr : RegAddr) : Byte := p.wregBase + addr.setWidth 8

/-- The register-read frame (R97). -/
def readFrame (p : Params) (addr : RegAddr) : Vector Byte 3 := #v[readOpcode p addr, 0x00, 0x00]

/-- The register-write frame (R97). -/
def writeFrame (p : Params) (addr : RegAddr) (value : Byte) : Vector Byte 2 := #v[writeOpcode p addr, value]

/-- The raw-sample frame (R97). -/
def sampleFrame (p : Params) : Vector Byte 6 := #v[p.opRdata, p.padByte, p.padByte, p.padByte, p.padByte, p.padByte]

/-- The calibration frame (R97). -/
def calibrationFrame (p : Params) : Vector Byte 2 := #v[p.opSfocal, p.padByte]

/-- `sext_32(hi ++ mid ++ lo)`: the 24-bit big-endian two's-complement sample (R65, R98(c)). -/
def assembleSample (hi mid lo : Byte) : Sample := (hi ++ mid ++ lo).signExtend 32

/-- `sample_of(rx)` (R98(c)): offsets 2, 3 and 4, the most significant byte first. -/
def sampleOf (rx : Vector Byte 6) : Sample := assembleSample rx[2] rx[3] rx[4]

/-- `sext_48` of a buffer entry (R141). -/
def sext48 (v : Sample) : RunningSum := v.signExtend 48

/-- `sat_32(n)` (R7). -/
def sat32 (n : Nat) : BitVec 32 := BitVec.ofNat 32 (min n (2 ^ 32 - 1))

/-- `trunc_32(int(SUM) quot COUNT)`, `quot` rounding toward zero (R7, R143). -/
def quotient (sum : RunningSum) (count : Capacity) : Sample :=
  BitVec.ofInt 32 (sum.toInt.tdiv count.toNat)

/-- `(HEAD + 1) mod CAP`, the sum not reduced before the `mod` (R141). -/
def nextIndex (head : BufIndex) (cap : Capacity) : BufIndex :=
  BitVec.ofNat 14 ((head.toNat + 1) % cap.toNat)

/-- `zext_16(COUNT) ++ SUM` (R145). -/
def snapshot (count : Capacity) (sum : RunningSum) : Data := count.setWidth 16 ++ sum

end Sys2Proof.Machine
end

