-- ==== Sys2Proof/Machine/Ops.lean ====
section
/-! DEFINITION. The shared operations of the block: the buffer space (spec 20_memory.md rule R61), the exchange
primitive (R66), the start pin (10_state.md rule R33), responding and raising a fault (30_encoding.md rule R94,
60_exceptions.md rule R220), and the updates of the registers that several operations share. -/

namespace Sys2Proof.Machine

/-! ### The buffer space -/

/-- `BUF[i]`; `none` where the entry holds no value (R29, R61). -/
def Memory.read : Memory → Nat → Option Sample
  | [], _ => none
  | (a, v) :: rest, i => if a = i then some v else Memory.read rest i

/-- `BUF[i] <- v` (R61), keeping the indices strictly rising. -/
def Memory.write : Memory → Nat → Sample → Memory
  | [], i, v => [(i, v)]
  | (a, x) :: rest, i, v =>
    if i < a then (i, v) :: (a, x) :: rest
    else if i = a then (i, v) :: rest
    else (a, x) :: Memory.write rest i v

/-- The number of entries of the buffer space, `MAXCAP` (R29). -/
def Memory.size : Nat := 16384

/-- The indices rise strictly, the first of them from `lo` on, and all of them lie in the buffer space. -/
def Memory.wfFrom : Nat → Memory → Bool
  | _, [] => true
  | lo, (a, _) :: rest => decide (lo ≤ a) && decide (a < Memory.size) && Memory.wfFrom (a + 1) rest

/-- The canonical form of the buffer space: equal buffers are equal lists. -/
def Memory.wf (m : Memory) : Bool := Memory.wfFrom 0 m

/-! ### Responses and faults -/

/-- The status code of a fault (R221). -/
def HostFault.code : HostFault → BitVec 8
  | .illegalCommand => 0x01
  | .invalidCapacity => 0x02
  | .capacityExceeded => 0x03
  | .noBuffer => 0x04
  | .busError => 0x05

/-- `respond(st, data)` (R94). -/
def State.respond (s : State) (st : BitVec 8) (data : Data) : State :=
  { s with responses := s.responses ++ [⟨st, data⟩] }

/-- `respond(OK, data)` (R94, R221). -/
def State.respondOk (s : State) (data : Data) : State := s.respond 0x00 data

/-- `raise <Fault>` of a host command (R220): the taking of an exception of this block. It responds with the
fault's code and `data = 0`; nothing is saved, no mode is switched and the next command is decoded as usual. -/
def State.raise (s : State) (f : HostFault) : State := s.respond f.code 0

/-- The one response that ends a host command: a datum, or a fault (R94). -/
def State.finish (s : State) : Except HostFault Data → State
  | .ok data => s.respondOk data
  | .error f => s.raise f

/-! ### The exchange primitive -/

/-- What the device answers to the frame `tx`: the next answer of the input script or, when there is none, the
oracle's, which sees the whole trace so far and the frame (R66; log entry 2). -/
def State.deviceAnswer (s : State) (tx : List Byte) : Answer :=
  match s.answers with
  | a :: _ => a
  | [] => Config.oracle s.trace tx

/-- The first `n` bytes of an answer, received while a frame of `n` bytes is sent (R64). -/
def Answer.received (a : Answer) (n : Nat) (h : n ≤ 6) : Vector Byte n :=
  Vector.ofFn fun i => a.bytes[i.val]'(Nat.lt_of_lt_of_le i.isLt h)

/-- The result of `Xfer(n, tx)`: the received bytes, or `none` for `ok = false`, which needs `BUS_CAN_FAIL`
(R66). -/
def State.xferResult {n : Nat} (s : State) (tx : Vector Byte n) (h : n ≤ 6 := by decide) : Option (Vector Byte n) :=
  let a := s.deviceAnswer tx.toList
  if a.ok || !s.params.busCanFail then some (Answer.received a n h) else none

/-- The state after `Xfer(n, tx)`: the answer is used up and `Xfer(tx, ok, rx)` is appended to `TRACE` (R66). -/
def State.afterXfer {n : Nat} (s : State) (tx : Vector Byte n) (h : n ≤ 6 := by decide) : State :=
  { s with
    answers := s.answers.tail
    trace := s.trace ++ [.xfer tx.toList ((s.xferResult tx h).map Vector.toList)] }

/-- The result of `ReadRawSample()` (R124): the sample, or `none` for a failed exchange. -/
def State.rawSample (s : State) : Option Sample := (s.xferResult (sampleFrame s.params)).map sampleOf

/-- The state after `ReadRawSample()` (R124). -/
def State.afterRawSample (s : State) : State := s.afterXfer (sampleFrame s.params)

/-- `BusError` for a failed exchange, else the datum (R120 to R123). -/
def busResult (r : Option Data) : Except HostFault Data :=
  match r with
  | some d => .ok d
  | none => .error .busError

/-! ### The start pin -/

/-- `StartLow` (R8, R33). -/
def State.startLow (s : State) : State := { s with start := false, trace := s.trace ++ [.startLow] }

/-- `StartHigh` (R8, R33). -/
def State.startHigh (s : State) : State := { s with start := true, trace := s.trace ++ [.startHigh] }

/-! ### The moving-average registers -/

/-- The five writes of a successful `MAV_CREATE`, in one step (R140). -/
def State.installBuffer (s : State) (cap : Capacity) : State :=
  { s with cap := cap, head := 0, count := 0, sum := 0, bufValid := true }

/-- The three writes of `MAV_CLEAR` (R144). -/
def State.emptyBuffer (s : State) : State := { s with head := 0, count := 0, sum := 0 }

/-- The store of `MavAdd` once the eviction is settled: `base` is the sum without the evicted entry and `count`
the number of entries after the push (R141). -/
def State.storeSample (s : State) (v : Sample) (base : RunningSum) (count : Capacity) : State :=
  { s with
    count := count
    buf := Memory.write s.buf s.head.toNat v
    sum := base + sext48 v
    head := nextIndex s.head s.cap }

/-- `MavAdd(v)` (R141): a full buffer loses the entry at `HEAD`, which is read before the store overwrites it. -/
def State.mavAdd (s : State) (v : Sample) : Host.Outcome State Fault Refusal :=
  if s.count = s.cap then
    match Memory.read s.buf s.head.toNat with
    | some oldest => .next (s.storeSample v (s.sum - sext48 oldest) s.count)
    | none => .fault .unfilledEntryRead
  else .next (s.storeSample v s.sum (s.count + 1))

/-- Go on from a next state; a stop stays a stop. -/
def andThen (o : Host.Outcome State Fault Refusal) (f : State → State) : Host.Outcome State Fault Refusal :=
  match o with
  | .next s => .next (f s)
  | .fault r => .fault r
  | .refused r => .refused r

/-! ### The acquisition registers -/

/-- The three writes of `WIN_OPEN`, in one step (R163, R73(a)). -/
def State.openWindow (s : State) : State := { s with edgeCount := 0, windowStart := s.time, winArmed := true }

/-- `WIN_ARMED <- 0` (R31, R161, R164). -/
def State.closeWindow (s : State) : State := { s with winArmed := false }

/-- `EDGE_COUNT <- sat_32(EDGE_COUNT + 1)` (R161). -/
def State.countEdge (s : State) : State := { s with edgeCount := sat32 (s.edgeCount.toNat + 1) }

/-- `LAST_SAMPLE <- v ; LAST_VALID <- 1` (R161). -/
def State.latchSample (s : State) (v : Sample) : State := { s with lastSample := v, lastValid := true }

/-- `BUS_ERR <- 1` (R161). -/
def State.flagBusError (s : State) : State := { s with busErr := true }

/-- `EDGE_PENDING <- 0` (R161, R172). -/
def State.clearPending (s : State) : State := { s with edgePending := false }

/-- An enabled edge is latched; one that finds an edge pending is merged and flagged (R160). -/
def State.latchEdge (s : State) : State :=
  { s with edgePending := true, edgeOverrun := s.edgeOverrun || s.edgePending }

/-- `EDGE_OVERRUN <- 0 ; BUS_ERR <- 0` (R170). -/
def State.clearSticky (s : State) : State := { s with edgeOverrun := false, busErr := false }

/-- `EDGE_EN <- en` (R171, R172). -/
def State.setEdgeEn (s : State) (en : Bool) : State := { s with edgeEn := en }

/-- `TIME <- trunc_32(TIME + 1)` (R162). -/
def State.advanceTime (s : State) : State := { s with time := s.time + 1 }

end Sys2Proof.Machine
end

