-- ==== Sys2Proof/Machine/Acquisition.lean ====
section
/-! DEFINITION. The acquisition commands of the host (spec 43_acquisition.md rules R163, R164, R167 to R173). -/

namespace Sys2Proof.Machine

/-- `WIN_OPEN` (R163). -/
def execWinOpen (s : State) : Host.Outcome State Fault Refusal := .next (s.openWindow.respondOk 0)

/-- `WIN_POLL` (R164): the poll that finds the window expired closes it. -/
def execWinPoll (s : State) : Host.Outcome State Fault Refusal :=
  .next (if s.inWindow then s.respondOk 1 else s.closeWindow.respondOk 0)

/-- `GET_LAST` (R167). -/
def execGetLast (s : State) : Host.Outcome State Fault Refusal := .next (s.respondOk (s.lastSample.signExtend 64))

/-- `GET_COUNT` (R168). -/
def execGetCount (s : State) : Host.Outcome State Fault Refusal := .next (s.respondOk (s.edgeCount.setWidth 64))

/-- `GET_STATUS` (R169). -/
def execGetStatus (s : State) : Host.Outcome State Fault Refusal := .next (s.respondOk (s.status.setWidth 64))

/-- `CLR_STATUS` (R170). -/
def execClrStatus (s : State) : Host.Outcome State Fault Refusal := .next (s.clearSticky.respondOk 0)

/-- `IRQ_EN` (R171). -/
def execIrqEn (s : State) : Host.Outcome State Fault Refusal := .next ((s.setEdgeEn true).respondOk 0)

/-- `IRQ_DIS` (R172): a pending edge is discarded. -/
def execIrqDis (s : State) : Host.Outcome State Fault Refusal :=
  .next ((s.setEdgeEn false).clearPending.respondOk 0)

/-- `GET_TIME` (R173). -/
def execGetTime (s : State) : Host.Outcome State Fault Refusal := .next (s.respondOk (s.time.setWidth 64))

end Sys2Proof.Machine
end

