-- ==== Sys2Proof/Machine/Codec.lean ====
section
/-! DEFINITION. The RegisterCodec commands (spec 41_register_codec.md rules R120 to R123). None of them retries,
times out or checks an inbound byte (R125). -/

namespace Sys2Proof.Machine

/-- `RREG addr` (R120): one 3-byte exchange; the datum is the third received byte. -/
def execRreg (addr : RegAddr) (s : State) : Host.Outcome State Fault Refusal :=
  let tx := readFrame s.params addr
  .next ((s.afterXfer tx).finish (busResult ((s.xferResult tx).map fun rx => rx[2].setWidth 64)))

/-- `WREG addr, value` (R121): the exchange between `StartLow` and `StartHigh`; the pin is high again before any
fault is raised. -/
def execWreg (addr : RegAddr) (value : Byte) (s : State) : Host.Outcome State Fault Refusal :=
  let low := s.startLow
  let tx := writeFrame s.params addr value
  .next ((low.afterXfer tx).startHigh.finish (busResult ((low.xferResult tx).map fun _ => 0)))

/-- `RDATA` (R122): `LAST_SAMPLE`, `LAST_VALID` and the buffer are not touched. -/
def execRdata (s : State) : Host.Outcome State Fault Refusal :=
  .next (s.afterRawSample.finish (busResult (s.rawSample.map fun v => v.signExtend 64)))

/-- `SFOCAL` (R123): the settle delay is the caller's. -/
def execSfocal (s : State) : Host.Outcome State Fault Refusal :=
  let tx := calibrationFrame s.params
  .next ((s.afterXfer tx).finish (busResult ((s.xferResult tx).map fun _ => 0)))

end Sys2Proof.Machine
end

