-- ==== Sys2Proof/Machine/MovingAverage.lean ====
section
/-! DEFINITION. The MovingAverageBuffer commands (spec 42_moving_average.md rules R140, R142 to R145). -/

namespace Sys2Proof.Machine

/-- `MAV_CREATE cap` (R140): a capacity of 0 or above `MAXCAP` leaves the old buffer as it is. -/
def execMavCreate (cap : BitVec 32) (s : State) : Host.Outcome State Fault Refusal :=
  if cap.toNat = 0 then .next (s.raise .invalidCapacity)
  else if s.params.maxCap < cap.toNat then .next (s.raise .capacityExceeded)
  else .next ((s.installBuffer (cap.setWidth 15)).respondOk 0)

/-- `MAV_ADD v` (R142). -/
def execMavAdd (v : Sample) (s : State) : Host.Outcome State Fault Refusal :=
  if s.bufValid then andThen (s.mavAdd v) (fun t => t.respondOk 0) else .next (s.raise .noBuffer)

/-- The datum of `MAV_AVG`: the mean of an empty buffer is 0 (R143). -/
def State.mean (s : State) : Data :=
  if s.count = 0 then 0 else (quotient s.sum s.count).signExtend 64

/-- `MAV_AVG` (R143). -/
def execMavAvg (s : State) : Host.Outcome State Fault Refusal :=
  .next (if s.bufValid then s.respondOk s.mean else s.raise .noBuffer)

/-- `MAV_CLEAR` (R144). -/
def execMavClear (s : State) : Host.Outcome State Fault Refusal :=
  .next (if s.bufValid then s.emptyBuffer.respondOk 0 else s.raise .noBuffer)

/-- `MAV_SNAP` (R145). -/
def execMavSnap (s : State) : Host.Outcome State Fault Refusal :=
  .next (if s.bufValid then s.respondOk (snapshot s.count s.sum) else s.raise .noBuffer)

end Sys2Proof.Machine
end

