-- ==== Sys2Proof/Machine/Dispatch.lean ====
section
/-! DEFINITION. One arm for each host command (spec 30_encoding.md rule R96), each a direct call of its meaning. -/

namespace Sys2Proof.Machine

def exec (i : Instr) (s : State) : Host.Outcome State Fault Refusal :=
  match i with
  | .rdata => Sys2Proof.Machine.execRdata s
  | .sfocal => Sys2Proof.Machine.execSfocal s
  | .rreg addr => Sys2Proof.Machine.execRreg addr s
  | .wreg addr value => Sys2Proof.Machine.execWreg addr value s
  | .mavCreate cap => Sys2Proof.Machine.execMavCreate cap s
  | .mavAdd v => Sys2Proof.Machine.execMavAdd v s
  | .mavAvg => Sys2Proof.Machine.execMavAvg s
  | .mavClear => Sys2Proof.Machine.execMavClear s
  | .mavSnap => Sys2Proof.Machine.execMavSnap s
  | .winOpen => Sys2Proof.Machine.execWinOpen s
  | .winPoll => Sys2Proof.Machine.execWinPoll s
  | .getLast => Sys2Proof.Machine.execGetLast s
  | .getCount => Sys2Proof.Machine.execGetCount s
  | .getStatus => Sys2Proof.Machine.execGetStatus s
  | .clrStatus => Sys2Proof.Machine.execClrStatus s
  | .irqEn => Sys2Proof.Machine.execIrqEn s
  | .irqDis => Sys2Proof.Machine.execIrqDis s
  | .getTime => Sys2Proof.Machine.execGetTime s

end Sys2Proof.Machine
end

