-- ==== Sys2Proof/Machine/Events.lean ====
section
/-! DEFINITION. The three event steps, which have no encoding and no response (spec 43_acquisition.md rules R160 to
R162). `EDGE_SERVICE` is the entry, the body and the return of the one interrupt (60_exceptions.md rules R225,
R226): nothing is saved and nothing is restored. -/

namespace Sys2Proof.Machine

/-- `EDGE` (R160): ignored while the interrupt is disabled. -/
def edgeArrives (s : State) : Host.Outcome State Fault Refusal :=
  .next (if s.edgeEn then s.latchEdge else s)

/-- The work of an edge serviced outside a window, on the state whose expired window is closed (R161): one
raw-sample exchange, then the sample is latched and pushed into the buffer if there is one. -/
def serviceSample (s : State) : Host.Outcome State Fault Refusal :=
  match s.rawSample with
  | some v =>
    let latched := s.afterRawSample.latchSample v
    if latched.bufValid then latched.mavAdd v else .next latched
  | none => .next s.afterRawSample.flagBusError

/-- The body of `EDGE_SERVICE` after `EDGE_PENDING <- 0` (R161): inside a window the edge is counted and nothing is
read. -/
def serviceBody (s : State) : Host.Outcome State Fault Refusal :=
  if s.inWindow then .next s.countEdge else serviceSample s.closeWindow

/-- `EDGE_SERVICE` (R161): enabled if and only if `EDGE_PENDING = 1`. -/
def edgeService (s : State) : Host.Outcome State Fault Refusal :=
  if s.edgePending then serviceBody s.clearPending else .refused .serviceNotEnabled

/-- `TICK` (R162). -/
def tick (s : State) : Host.Outcome State Fault Refusal := .next s.advanceTime

end Sys2Proof.Machine
end

