-- ==== Sys2Proof/Machine/Step.lean ====
section
/-! DEFINITION. The step of the block (spec 00_scope.md rule R9, 20_memory.md rule R70): the next input of the
schedule is taken and performed whole, a host command from its decode to its response. -/

namespace Sys2Proof.Machine

/-- Perform one input. A command word that decodes to no command is answered `IllegalCommand` and does nothing
else (R100, R222). -/
def perform (e : Input) (s : State) : Host.Outcome State Fault Refusal :=
  match e with
  | .command w =>
    match decode w with
    | .ok i => exec i s
    | .error _ => .next (s.raise .illegalCommand)
  | .edge => edgeArrives s
  | .service => edgeService s
  | .tick => tick s

/-- One step. With no input left the block waits and nothing changes (R260; log entry 1). -/
def step (s : State) : Host.Outcome State Fault Refusal :=
  match s.inputs with
  | [] => .next s
  | e :: rest => perform e { s with inputs := rest }

/-- The state whose next input is the command word given as opcode_table.json numbers its bits: the block has no
fetch (R24), so a command comes to run by arriving from the host (log entry 1). -/
def State.withFetchWord (s : State) (nbits w : Nat) : State :=
  match tableCommandWord nbits w with
  | some v => { s with inputs := .command v :: s.inputs }
  | none => s

end Sys2Proof.Machine
end

