-- ==== Sys2Proof/Laws/Encoding.lean ====
section
/-! SUPPORT. The fields of a command word built from its `op` byte and its `arg`, and the decoder on such a word, so
that no proof about decoding takes bit positions apart again. -/

namespace Sys2Proof

theorem getLsbD_commandWord (op : Byte) (arg : BitVec 32) (k : Nat) :
    (commandWord op arg).getLsbD k = if k < 32 then arg.getLsbD k else op.getLsbD (k - 32) := by
  simp only [commandWord, BitVec.getLsbD_append]

/-- A mask on a command word is a mask on each half. -/
theorem commandWord_and (op op' : Byte) (arg m : BitVec 32) :
    commandWord op arg &&& commandWord op' m = commandWord (op &&& op') (arg &&& m) := by
  apply BitVec.eq_of_getLsbD_eq
  intro k _
  simp only [getLsbD_commandWord, BitVec.getLsbD_and]
  split <;> rfl

@[simp] theorem opField_commandWord (op : Byte) (arg : BitVec 32) : opField (commandWord op arg) = op := by
  apply BitVec.eq_of_getLsbD_eq
  intro k hk
  simp [opField, getLsbD_commandWord, hk]

@[simp] theorem argField_commandWord (op : Byte) (arg : BitVec 32) : argField (commandWord op arg) = arg := by
  apply BitVec.eq_of_getLsbD_eq
  intro k hk
  simp [argField, getLsbD_commandWord, hk]

@[simp] theorem prefixField_commandWord (op : Byte) (arg : BitVec 32) :
    prefixField (commandWord op arg) = op.extractLsb' 5 3 := by
  apply BitVec.eq_of_getLsbD_eq
  intro k hk
  have h1 : ¬ 37 + k < 32 := by omega
  have h2 : 37 + k - 32 = 5 + k := by omega
  simp [prefixField, BitVec.getLsbD_extractLsb', getLsbD_commandWord, h1, h2]

@[simp] theorem addrField_commandWord (op : Byte) (arg : BitVec 32) :
    addrField (commandWord op arg) = op.extractLsb' 0 5 := by
  apply BitVec.eq_of_getLsbD_eq
  intro k hk
  simp [addrField, BitVec.getLsbD_extractLsb', getLsbD_commandWord]

@[simp] theorem valueField_commandWord (op : Byte) (arg : BitVec 32) :
    valueField (commandWord op arg) = arg.extractLsb' 0 8 := by
  apply BitVec.eq_of_getLsbD_eq
  intro k hk
  have h : k < 32 := by omega
  simp [valueField, BitVec.getLsbD_extractLsb', getLsbD_commandWord, h]

@[simp] theorem writeHighField_commandWord (op : Byte) (arg : BitVec 32) :
    writeHighField (commandWord op arg) = arg.extractLsb' 8 24 := by
  apply BitVec.eq_of_getLsbD_eq
  intro k hk
  have h : 8 + k < 32 := by omega
  simp [writeHighField, BitVec.getLsbD_extractLsb', getLsbD_commandWord, h]

/-- Every command word is built from its `op` byte and its `arg` (R90: every bit belongs to one of the two). -/
theorem commandWord_fields (w : CommandWord) : commandWord (opField w) (argField w) = w := by
  apply BitVec.eq_of_getLsbD_eq
  intro k hk
  rw [getLsbD_commandWord]
  simp only [opField, argField, BitVec.getLsbD_extractLsb']
  split
  · simp_all
  · have h1 : k - 32 < 8 := by omega
    have h2 : 32 + (k - 32) = k := by omega
    simp [h1, h2]

end Sys2Proof
end

