-- ==== Sys2Proof/Laws/Config.lean ====
section
/-! SUPPORT. The parameters whose value R5 fixes have that value in every configuration record, and the widths among
them are those of the model's types. -/

namespace Sys2Proof

variable (p : Params)

@[simp] theorem Params.rregBase_eq : p.rregBase = 0x20 := rfl
@[simp] theorem Params.wregBase_eq : p.wregBase = 0x40 := rfl
@[simp] theorem Params.opRdata_eq : p.opRdata = 0x12 := rfl
@[simp] theorem Params.opSfocal_eq : p.opSfocal = 0x19 := rfl
@[simp] theorem Params.padByte_eq : p.padByte = 0x00 := rfl
/-- Not proved by `rfl` itself, so that `simp` rewrites the decision of an `if` along with its condition. -/
@[simp] theorem Params.maxCap_eq : p.maxCap = 16384 := Eq.trans rfl rfl
@[simp] theorem Params.invalidByte_eq : p.invalidByte = 0xFF := rfl

theorem Params.maxCap_eq_size : p.maxCap = Machine.Memory.size := rfl

theorem Params.type_widths :
    Sample = BitVec p.xlen ∧ RegAddr = BitVec p.addrBits ∧ Capacity = BitVec p.capw ∧ BufIndex = BitVec p.idxw ∧
      RunningSum = BitVec p.sumw ∧ Ticks = BitVec p.timew ∧ EdgeCount = BitVec p.cntw ∧
      p.sampleBits = 3 * 8 := ⟨rfl, rfl, rfl, rfl, rfl, rfl, rfl, rfl⟩

end Sys2Proof
end

