-- ==== Sys2Proof/Laws/Memory.lean ====
section
/-! SUPPORT. The laws of the buffer space: a read after a write to the same index gives the value written, a write
leaves every other index alone, and a write keeps the canonical form. -/

namespace Sys2Proof.Machine.Memory

@[simp] theorem read_nil (i : Nat) : read [] i = none := rfl

@[simp] theorem wf_nil : wf [] = true := rfl

@[simp] theorem read_write_same (m : Memory) (i : Nat) (v : Sample) : read (write m i v) i = some v := by
  induction m with
  | nil => simp [write, read]
  | cons c rest ih =>
    obtain ⟨a, x⟩ := c
    simp only [write]
    split
    · simp [read]
    · split
      · simp [read]
      · simp [read, ih, Ne.symm ‹¬i = a›]

theorem read_write_other (m : Memory) {i j : Nat} (v : Sample) (h : j ≠ i) : read (write m i v) j = read m j := by
  induction m with
  | nil => simp [write, read, h.symm]
  | cons c rest ih =>
    obtain ⟨a, x⟩ := c
    simp only [write]
    split
    · simp [read, h.symm]
    · split
      · subst i; simp [read, h.symm]
      · simp [read, ih]

theorem wfFrom_write {m : Memory} {lo i : Nat} (v : Sample) (hlo : lo ≤ i) (hi : i < Memory.size)
    (h : wfFrom lo m = true) : wfFrom lo (write m i v) = true := by
  induction m generalizing lo with
  | nil => simp [write, wfFrom, hlo, hi]
  | cons c rest ih =>
    obtain ⟨a, x⟩ := c
    simp only [wfFrom, Bool.and_eq_true, decide_eq_true_eq] at h
    simp only [write]
    split
    · simp only [wfFrom, Bool.and_eq_true, decide_eq_true_eq]
      exact ⟨⟨hlo, hi⟩, ⟨by omega, h.1.2⟩, h.2⟩
    · split
      · subst i; simp [wfFrom, hlo, hi, h.2]
      · simp only [wfFrom, Bool.and_eq_true, decide_eq_true_eq]
        exact ⟨h.1, ih (by omega) h.2⟩

/-- Every store of the block keeps the canonical form: its index is `HEAD`, 14 bits wide. -/
theorem wf_write {m : Memory} {i : Nat} (v : Sample) (hi : i < Memory.size) (h : wf m = true) :
    wf (write m i v) = true :=
  wfFrom_write v (Nat.zero_le i) hi h

end Sys2Proof.Machine.Memory
end

