-- ==== Sys2Proof/Laws/State.lean ====
section
/-! SUPPORT. One lemma for each field of the state under each named update of Machine/Ops.lean, true by
unfolding the update once, so that no later proof unfolds a record update. -/

namespace Sys2Proof.Machine.State

variable {n : Nat} (s : State)

@[simp] theorem respondOk_eq (d : Data) : s.respondOk d = s.respond 0x00 d := rfl
@[simp] theorem raise_eq (f : HostFault) : s.raise f = s.respond f.code 0 := rfl
@[simp] theorem finish_ok (d : Data) : s.finish (.ok d) = s.respond 0x00 d := rfl
@[simp] theorem finish_error (f : HostFault) : s.finish (.error f) = s.respond f.code 0 := rfl
@[simp] theorem afterRawSample_eq : s.afterRawSample = s.afterXfer (sampleFrame s.params) := rfl

/-! ### `respond` -/

@[simp] theorem respond_lastSample (st : BitVec 8) (data : Data) : (s.respond st data).lastSample = s.lastSample := rfl
@[simp] theorem respond_edgeCount (st : BitVec 8) (data : Data) : (s.respond st data).edgeCount = s.edgeCount := rfl
@[simp] theorem respond_windowStart (st : BitVec 8) (data : Data) : (s.respond st data).windowStart = s.windowStart := rfl
@[simp] theorem respond_bufValid (st : BitVec 8) (data : Data) : (s.respond st data).bufValid = s.bufValid := rfl
@[simp] theorem respond_cap (st : BitVec 8) (data : Data) : (s.respond st data).cap = s.cap := rfl
@[simp] theorem respond_head (st : BitVec 8) (data : Data) : (s.respond st data).head = s.head := rfl
@[simp] theorem respond_count (st : BitVec 8) (data : Data) : (s.respond st data).count = s.count := rfl
@[simp] theorem respond_sum (st : BitVec 8) (data : Data) : (s.respond st data).sum = s.sum := rfl
@[simp] theorem respond_buf (st : BitVec 8) (data : Data) : (s.respond st data).buf = s.buf := rfl
@[simp] theorem respond_time (st : BitVec 8) (data : Data) : (s.respond st data).time = s.time := rfl
@[simp] theorem respond_winArmed (st : BitVec 8) (data : Data) : (s.respond st data).winArmed = s.winArmed := rfl
@[simp] theorem respond_edgeEn (st : BitVec 8) (data : Data) : (s.respond st data).edgeEn = s.edgeEn := rfl
@[simp] theorem respond_edgePending (st : BitVec 8) (data : Data) : (s.respond st data).edgePending = s.edgePending := rfl
@[simp] theorem respond_edgeOverrun (st : BitVec 8) (data : Data) : (s.respond st data).edgeOverrun = s.edgeOverrun := rfl
@[simp] theorem respond_busErr (st : BitVec 8) (data : Data) : (s.respond st data).busErr = s.busErr := rfl
@[simp] theorem respond_lastValid (st : BitVec 8) (data : Data) : (s.respond st data).lastValid = s.lastValid := rfl
@[simp] theorem respond_start (st : BitVec 8) (data : Data) : (s.respond st data).start = s.start := rfl
@[simp] theorem respond_trace (st : BitVec 8) (data : Data) : (s.respond st data).trace = s.trace := rfl
@[simp] theorem respond_params (st : BitVec 8) (data : Data) : (s.respond st data).params = s.params := rfl
@[simp] theorem respond_answers (st : BitVec 8) (data : Data) : (s.respond st data).answers = s.answers := rfl
@[simp] theorem respond_inputs (st : BitVec 8) (data : Data) : (s.respond st data).inputs = s.inputs := rfl
@[simp] theorem respond_responses (st : BitVec 8) (data : Data) : (s.respond st data).responses = s.responses ++ [⟨st, data⟩] := rfl

/-! ### `afterXfer` -/

@[simp] theorem afterXfer_lastSample (tx : Vector Byte n) (h : n ≤ 6) : (s.afterXfer tx h).lastSample = s.lastSample := rfl
@[simp] theorem afterXfer_edgeCount (tx : Vector Byte n) (h : n ≤ 6) : (s.afterXfer tx h).edgeCount = s.edgeCount := rfl
@[simp] theorem afterXfer_windowStart (tx : Vector Byte n) (h : n ≤ 6) : (s.afterXfer tx h).windowStart = s.windowStart := rfl
@[simp] theorem afterXfer_bufValid (tx : Vector Byte n) (h : n ≤ 6) : (s.afterXfer tx h).bufValid = s.bufValid := rfl
@[simp] theorem afterXfer_cap (tx : Vector Byte n) (h : n ≤ 6) : (s.afterXfer tx h).cap = s.cap := rfl
@[simp] theorem afterXfer_head (tx : Vector Byte n) (h : n ≤ 6) : (s.afterXfer tx h).head = s.head := rfl
@[simp] theorem afterXfer_count (tx : Vector Byte n) (h : n ≤ 6) : (s.afterXfer tx h).count = s.count := rfl
@[simp] theorem afterXfer_sum (tx : Vector Byte n) (h : n ≤ 6) : (s.afterXfer tx h).sum = s.sum := rfl
@[simp] theorem afterXfer_buf (tx : Vector Byte n) (h : n ≤ 6) : (s.afterXfer tx h).buf = s.buf := rfl
@[simp] theorem afterXfer_time (tx : Vector Byte n) (h : n ≤ 6) : (s.afterXfer tx h).time = s.time := rfl
@[simp] theorem afterXfer_winArmed (tx : Vector Byte n) (h : n ≤ 6) : (s.afterXfer tx h).winArmed = s.winArmed := rfl
@[simp] theorem afterXfer_edgeEn (tx : Vector Byte n) (h : n ≤ 6) : (s.afterXfer tx h).edgeEn = s.edgeEn := rfl
@[simp] theorem afterXfer_edgePending (tx : Vector Byte n) (h : n ≤ 6) : (s.afterXfer tx h).edgePending = s.edgePending := rfl
@[simp] theorem afterXfer_edgeOverrun (tx : Vector Byte n) (h : n ≤ 6) : (s.afterXfer tx h).edgeOverrun = s.edgeOverrun := rfl
@[simp] theorem afterXfer_busErr (tx : Vector Byte n) (h : n ≤ 6) : (s.afterXfer tx h).busErr = s.busErr := rfl
@[simp] theorem afterXfer_lastValid (tx : Vector Byte n) (h : n ≤ 6) : (s.afterXfer tx h).lastValid = s.lastValid := rfl
@[simp] theorem afterXfer_start (tx : Vector Byte n) (h : n ≤ 6) : (s.afterXfer tx h).start = s.start := rfl
@[simp] theorem afterXfer_trace (tx : Vector Byte n) (h : n ≤ 6) : (s.afterXfer tx h).trace = s.trace ++ [.xfer tx.toList ((s.xferResult tx h).map Vector.toList)] := rfl
@[simp] theorem afterXfer_params (tx : Vector Byte n) (h : n ≤ 6) : (s.afterXfer tx h).params = s.params := rfl
@[simp] theorem afterXfer_answers (tx : Vector Byte n) (h : n ≤ 6) : (s.afterXfer tx h).answers = s.answers.tail := rfl
@[simp] theorem afterXfer_inputs (tx : Vector Byte n) (h : n ≤ 6) : (s.afterXfer tx h).inputs = s.inputs := rfl
@[simp] theorem afterXfer_responses (tx : Vector Byte n) (h : n ≤ 6) : (s.afterXfer tx h).responses = s.responses := rfl

/-! ### `startLow` -/

@[simp] theorem startLow_lastSample : (s.startLow).lastSample = s.lastSample := rfl
@[simp] theorem startLow_edgeCount : (s.startLow).edgeCount = s.edgeCount := rfl
@[simp] theorem startLow_windowStart : (s.startLow).windowStart = s.windowStart := rfl
@[simp] theorem startLow_bufValid : (s.startLow).bufValid = s.bufValid := rfl
@[simp] theorem startLow_cap : (s.startLow).cap = s.cap := rfl
@[simp] theorem startLow_head : (s.startLow).head = s.head := rfl
@[simp] theorem startLow_count : (s.startLow).count = s.count := rfl
@[simp] theorem startLow_sum : (s.startLow).sum = s.sum := rfl
@[simp] theorem startLow_buf : (s.startLow).buf = s.buf := rfl
@[simp] theorem startLow_time : (s.startLow).time = s.time := rfl
@[simp] theorem startLow_winArmed : (s.startLow).winArmed = s.winArmed := rfl
@[simp] theorem startLow_edgeEn : (s.startLow).edgeEn = s.edgeEn := rfl
@[simp] theorem startLow_edgePending : (s.startLow).edgePending = s.edgePending := rfl
@[simp] theorem startLow_edgeOverrun : (s.startLow).edgeOverrun = s.edgeOverrun := rfl
@[simp] theorem startLow_busErr : (s.startLow).busErr = s.busErr := rfl
@[simp] theorem startLow_lastValid : (s.startLow).lastValid = s.lastValid := rfl
@[simp] theorem startLow_start : (s.startLow).start = false := rfl
@[simp] theorem startLow_trace : (s.startLow).trace = s.trace ++ [.startLow] := rfl
@[simp] theorem startLow_params : (s.startLow).params = s.params := rfl
@[simp] theorem startLow_answers : (s.startLow).answers = s.answers := rfl
@[simp] theorem startLow_inputs : (s.startLow).inputs = s.inputs := rfl
@[simp] theorem startLow_responses : (s.startLow).responses = s.responses := rfl

/-! ### `startHigh` -/

@[simp] theorem startHigh_lastSample : (s.startHigh).lastSample = s.lastSample := rfl
@[simp] theorem startHigh_edgeCount : (s.startHigh).edgeCount = s.edgeCount := rfl
@[simp] theorem startHigh_windowStart : (s.startHigh).windowStart = s.windowStart := rfl
@[simp] theorem startHigh_bufValid : (s.startHigh).bufValid = s.bufValid := rfl
@[simp] theorem startHigh_cap : (s.startHigh).cap = s.cap := rfl
@[simp] theorem startHigh_head : (s.startHigh).head = s.head := rfl
@[simp] theorem startHigh_count : (s.startHigh).count = s.count := rfl
@[simp] theorem startHigh_sum : (s.startHigh).sum = s.sum := rfl
@[simp] theorem startHigh_buf : (s.startHigh).buf = s.buf := rfl
@[simp] theorem startHigh_time : (s.startHigh).time = s.time := rfl
@[simp] theorem startHigh_winArmed : (s.startHigh).winArmed = s.winArmed := rfl
@[simp] theorem startHigh_edgeEn : (s.startHigh).edgeEn = s.edgeEn := rfl
@[simp] theorem startHigh_edgePending : (s.startHigh).edgePending = s.edgePending := rfl
@[simp] theorem startHigh_edgeOverrun : (s.startHigh).edgeOverrun = s.edgeOverrun := rfl
@[simp] theorem startHigh_busErr : (s.startHigh).busErr = s.busErr := rfl
@[simp] theorem startHigh_lastValid : (s.startHigh).lastValid = s.lastValid := rfl
@[simp] theorem startHigh_start : (s.startHigh).start = true := rfl
@[simp] theorem startHigh_trace : (s.startHigh).trace = s.trace ++ [.startHigh] := rfl
@[simp] theorem startHigh_params : (s.startHigh).params = s.params := rfl
@[simp] theorem startHigh_answers : (s.startHigh).answers = s.answers := rfl
@[simp] theorem startHigh_inputs : (s.startHigh).inputs = s.inputs := rfl
@[simp] theorem startHigh_responses : (s.startHigh).responses = s.responses := rfl

/-! ### `installBuffer` -/

@[simp] theorem installBuffer_lastSample (c : Capacity) : (s.installBuffer c).lastSample = s.lastSample := rfl
@[simp] theorem installBuffer_edgeCount (c : Capacity) : (s.installBuffer c).edgeCount = s.edgeCount := rfl
@[simp] theorem installBuffer_windowStart (c : Capacity) : (s.installBuffer c).windowStart = s.windowStart := rfl
@[simp] theorem installBuffer_bufValid (c : Capacity) : (s.installBuffer c).bufValid = true := rfl
@[simp] theorem installBuffer_cap (c : Capacity) : (s.installBuffer c).cap = c := rfl
@[simp] theorem installBuffer_head (c : Capacity) : (s.installBuffer c).head = 0 := rfl
@[simp] theorem installBuffer_count (c : Capacity) : (s.installBuffer c).count = 0 := rfl
@[simp] theorem installBuffer_sum (c : Capacity) : (s.installBuffer c).sum = 0 := rfl
@[simp] theorem installBuffer_buf (c : Capacity) : (s.installBuffer c).buf = s.buf := rfl
@[simp] theorem installBuffer_time (c : Capacity) : (s.installBuffer c).time = s.time := rfl
@[simp] theorem installBuffer_winArmed (c : Capacity) : (s.installBuffer c).winArmed = s.winArmed := rfl
@[simp] theorem installBuffer_edgeEn (c : Capacity) : (s.installBuffer c).edgeEn = s.edgeEn := rfl
@[simp] theorem installBuffer_edgePending (c : Capacity) : (s.installBuffer c).edgePending = s.edgePending := rfl
@[simp] theorem installBuffer_edgeOverrun (c : Capacity) : (s.installBuffer c).edgeOverrun = s.edgeOverrun := rfl
@[simp] theorem installBuffer_busErr (c : Capacity) : (s.installBuffer c).busErr = s.busErr := rfl
@[simp] theorem installBuffer_lastValid (c : Capacity) : (s.installBuffer c).lastValid = s.lastValid := rfl
@[simp] theorem installBuffer_start (c : Capacity) : (s.installBuffer c).start = s.start := rfl
@[simp] theorem installBuffer_trace (c : Capacity) : (s.installBuffer c).trace = s.trace := rfl
@[simp] theorem installBuffer_params (c : Capacity) : (s.installBuffer c).params = s.params := rfl
@[simp] theorem installBuffer_answers (c : Capacity) : (s.installBuffer c).answers = s.answers := rfl
@[simp] theorem installBuffer_inputs (c : Capacity) : (s.installBuffer c).inputs = s.inputs := rfl
@[simp] theorem installBuffer_responses (c : Capacity) : (s.installBuffer c).responses = s.responses := rfl

/-! ### `emptyBuffer` -/

@[simp] theorem emptyBuffer_lastSample : (s.emptyBuffer).lastSample = s.lastSample := rfl
@[simp] theorem emptyBuffer_edgeCount : (s.emptyBuffer).edgeCount = s.edgeCount := rfl
@[simp] theorem emptyBuffer_windowStart : (s.emptyBuffer).windowStart = s.windowStart := rfl
@[simp] theorem emptyBuffer_bufValid : (s.emptyBuffer).bufValid = s.bufValid := rfl
@[simp] theorem emptyBuffer_cap : (s.emptyBuffer).cap = s.cap := rfl
@[simp] theorem emptyBuffer_head : (s.emptyBuffer).head = 0 := rfl
@[simp] theorem emptyBuffer_count : (s.emptyBuffer).count = 0 := rfl
@[simp] theorem emptyBuffer_sum : (s.emptyBuffer).sum = 0 := rfl
@[simp] theorem emptyBuffer_buf : (s.emptyBuffer).buf = s.buf := rfl
@[simp] theorem emptyBuffer_time : (s.emptyBuffer).time = s.time := rfl
@[simp] theorem emptyBuffer_winArmed : (s.emptyBuffer).winArmed = s.winArmed := rfl
@[simp] theorem emptyBuffer_edgeEn : (s.emptyBuffer).edgeEn = s.edgeEn := rfl
@[simp] theorem emptyBuffer_edgePending : (s.emptyBuffer).edgePending = s.edgePending := rfl
@[simp] theorem emptyBuffer_edgeOverrun : (s.emptyBuffer).edgeOverrun = s.edgeOverrun := rfl
@[simp] theorem emptyBuffer_busErr : (s.emptyBuffer).busErr = s.busErr := rfl
@[simp] theorem emptyBuffer_lastValid : (s.emptyBuffer).lastValid = s.lastValid := rfl
@[simp] theorem emptyBuffer_start : (s.emptyBuffer).start = s.start := rfl
@[simp] theorem emptyBuffer_trace : (s.emptyBuffer).trace = s.trace := rfl
@[simp] theorem emptyBuffer_params : (s.emptyBuffer).params = s.params := rfl
@[simp] theorem emptyBuffer_answers : (s.emptyBuffer).answers = s.answers := rfl
@[simp] theorem emptyBuffer_inputs : (s.emptyBuffer).inputs = s.inputs := rfl
@[simp] theorem emptyBuffer_responses : (s.emptyBuffer).responses = s.responses := rfl

/-! ### `storeSample` -/

@[simp] theorem storeSample_lastSample (v : Sample) (b : RunningSum) (c : Capacity) : (s.storeSample v b c).lastSample = s.lastSample := rfl
@[simp] theorem storeSample_edgeCount (v : Sample) (b : RunningSum) (c : Capacity) : (s.storeSample v b c).edgeCount = s.edgeCount := rfl
@[simp] theorem storeSample_windowStart (v : Sample) (b : RunningSum) (c : Capacity) : (s.storeSample v b c).windowStart = s.windowStart := rfl
@[simp] theorem storeSample_bufValid (v : Sample) (b : RunningSum) (c : Capacity) : (s.storeSample v b c).bufValid = s.bufValid := rfl
@[simp] theorem storeSample_cap (v : Sample) (b : RunningSum) (c : Capacity) : (s.storeSample v b c).cap = s.cap := rfl
@[simp] theorem storeSample_head (v : Sample) (b : RunningSum) (c : Capacity) : (s.storeSample v b c).head = nextIndex s.head s.cap := rfl
@[simp] theorem storeSample_count (v : Sample) (b : RunningSum) (c : Capacity) : (s.storeSample v b c).count = c := rfl
@[simp] theorem storeSample_sum (v : Sample) (b : RunningSum) (c : Capacity) : (s.storeSample v b c).sum = b + sext48 v := rfl
@[simp] theorem storeSample_buf (v : Sample) (b : RunningSum) (c : Capacity) : (s.storeSample v b c).buf = Memory.write s.buf s.head.toNat v := rfl
@[simp] theorem storeSample_time (v : Sample) (b : RunningSum) (c : Capacity) : (s.storeSample v b c).time = s.time := rfl
@[simp] theorem storeSample_winArmed (v : Sample) (b : RunningSum) (c : Capacity) : (s.storeSample v b c).winArmed = s.winArmed := rfl
@[simp] theorem storeSample_edgeEn (v : Sample) (b : RunningSum) (c : Capacity) : (s.storeSample v b c).edgeEn = s.edgeEn := rfl
@[simp] theorem storeSample_edgePending (v : Sample) (b : RunningSum) (c : Capacity) : (s.storeSample v b c).edgePending = s.edgePending := rfl
@[simp] theorem storeSample_edgeOverrun (v : Sample) (b : RunningSum) (c : Capacity) : (s.storeSample v b c).edgeOverrun = s.edgeOverrun := rfl
@[simp] theorem storeSample_busErr (v : Sample) (b : RunningSum) (c : Capacity) : (s.storeSample v b c).busErr = s.busErr := rfl
@[simp] theorem storeSample_lastValid (v : Sample) (b : RunningSum) (c : Capacity) : (s.storeSample v b c).lastValid = s.lastValid := rfl
@[simp] theorem storeSample_start (v : Sample) (b : RunningSum) (c : Capacity) : (s.storeSample v b c).start = s.start := rfl
@[simp] theorem storeSample_trace (v : Sample) (b : RunningSum) (c : Capacity) : (s.storeSample v b c).trace = s.trace := rfl
@[simp] theorem storeSample_params (v : Sample) (b : RunningSum) (c : Capacity) : (s.storeSample v b c).params = s.params := rfl
@[simp] theorem storeSample_answers (v : Sample) (b : RunningSum) (c : Capacity) : (s.storeSample v b c).answers = s.answers := rfl
@[simp] theorem storeSample_inputs (v : Sample) (b : RunningSum) (c : Capacity) : (s.storeSample v b c).inputs = s.inputs := rfl
@[simp] theorem storeSample_responses (v : Sample) (b : RunningSum) (c : Capacity) : (s.storeSample v b c).responses = s.responses := rfl

/-! ### `openWindow` -/

@[simp] theorem openWindow_lastSample : (s.openWindow).lastSample = s.lastSample := rfl
@[simp] theorem openWindow_edgeCount : (s.openWindow).edgeCount = 0 := rfl
@[simp] theorem openWindow_windowStart : (s.openWindow).windowStart = s.time := rfl
@[simp] theorem openWindow_bufValid : (s.openWindow).bufValid = s.bufValid := rfl
@[simp] theorem openWindow_cap : (s.openWindow).cap = s.cap := rfl
@[simp] theorem openWindow_head : (s.openWindow).head = s.head := rfl
@[simp] theorem openWindow_count : (s.openWindow).count = s.count := rfl
@[simp] theorem openWindow_sum : (s.openWindow).sum = s.sum := rfl
@[simp] theorem openWindow_buf : (s.openWindow).buf = s.buf := rfl
@[simp] theorem openWindow_time : (s.openWindow).time = s.time := rfl
@[simp] theorem openWindow_winArmed : (s.openWindow).winArmed = true := rfl
@[simp] theorem openWindow_edgeEn : (s.openWindow).edgeEn = s.edgeEn := rfl
@[simp] theorem openWindow_edgePending : (s.openWindow).edgePending = s.edgePending := rfl
@[simp] theorem openWindow_edgeOverrun : (s.openWindow).edgeOverrun = s.edgeOverrun := rfl
@[simp] theorem openWindow_busErr : (s.openWindow).busErr = s.busErr := rfl
@[simp] theorem openWindow_lastValid : (s.openWindow).lastValid = s.lastValid := rfl
@[simp] theorem openWindow_start : (s.openWindow).start = s.start := rfl
@[simp] theorem openWindow_trace : (s.openWindow).trace = s.trace := rfl
@[simp] theorem openWindow_params : (s.openWindow).params = s.params := rfl
@[simp] theorem openWindow_answers : (s.openWindow).answers = s.answers := rfl
@[simp] theorem openWindow_inputs : (s.openWindow).inputs = s.inputs := rfl
@[simp] theorem openWindow_responses : (s.openWindow).responses = s.responses := rfl

/-! ### `closeWindow` -/

@[simp] theorem closeWindow_lastSample : (s.closeWindow).lastSample = s.lastSample := rfl
@[simp] theorem closeWindow_edgeCount : (s.closeWindow).edgeCount = s.edgeCount := rfl
@[simp] theorem closeWindow_windowStart : (s.closeWindow).windowStart = s.windowStart := rfl
@[simp] theorem closeWindow_bufValid : (s.closeWindow).bufValid = s.bufValid := rfl
@[simp] theorem closeWindow_cap : (s.closeWindow).cap = s.cap := rfl
@[simp] theorem closeWindow_head : (s.closeWindow).head = s.head := rfl
@[simp] theorem closeWindow_count : (s.closeWindow).count = s.count := rfl
@[simp] theorem closeWindow_sum : (s.closeWindow).sum = s.sum := rfl
@[simp] theorem closeWindow_buf : (s.closeWindow).buf = s.buf := rfl
@[simp] theorem closeWindow_time : (s.closeWindow).time = s.time := rfl
@[simp] theorem closeWindow_winArmed : (s.closeWindow).winArmed = false := rfl
@[simp] theorem closeWindow_edgeEn : (s.closeWindow).edgeEn = s.edgeEn := rfl
@[simp] theorem closeWindow_edgePending : (s.closeWindow).edgePending = s.edgePending := rfl
@[simp] theorem closeWindow_edgeOverrun : (s.closeWindow).edgeOverrun = s.edgeOverrun := rfl
@[simp] theorem closeWindow_busErr : (s.closeWindow).busErr = s.busErr := rfl
@[simp] theorem closeWindow_lastValid : (s.closeWindow).lastValid = s.lastValid := rfl
@[simp] theorem closeWindow_start : (s.closeWindow).start = s.start := rfl
@[simp] theorem closeWindow_trace : (s.closeWindow).trace = s.trace := rfl
@[simp] theorem closeWindow_params : (s.closeWindow).params = s.params := rfl
@[simp] theorem closeWindow_answers : (s.closeWindow).answers = s.answers := rfl
@[simp] theorem closeWindow_inputs : (s.closeWindow).inputs = s.inputs := rfl
@[simp] theorem closeWindow_responses : (s.closeWindow).responses = s.responses := rfl

/-! ### `countEdge` -/

@[simp] theorem countEdge_lastSample : (s.countEdge).lastSample = s.lastSample := rfl
@[simp] theorem countEdge_edgeCount : (s.countEdge).edgeCount = sat32 (s.edgeCount.toNat + 1) := rfl
@[simp] theorem countEdge_windowStart : (s.countEdge).windowStart = s.windowStart := rfl
@[simp] theorem countEdge_bufValid : (s.countEdge).bufValid = s.bufValid := rfl
@[simp] theorem countEdge_cap : (s.countEdge).cap = s.cap := rfl
@[simp] theorem countEdge_head : (s.countEdge).head = s.head := rfl
@[simp] theorem countEdge_count : (s.countEdge).count = s.count := rfl
@[simp] theorem countEdge_sum : (s.countEdge).sum = s.sum := rfl
@[simp] theorem countEdge_buf : (s.countEdge).buf = s.buf := rfl
@[simp] theorem countEdge_time : (s.countEdge).time = s.time := rfl
@[simp] theorem countEdge_winArmed : (s.countEdge).winArmed = s.winArmed := rfl
@[simp] theorem countEdge_edgeEn : (s.countEdge).edgeEn = s.edgeEn := rfl
@[simp] theorem countEdge_edgePending : (s.countEdge).edgePending = s.edgePending := rfl
@[simp] theorem countEdge_edgeOverrun : (s.countEdge).edgeOverrun = s.edgeOverrun := rfl
@[simp] theorem countEdge_busErr : (s.countEdge).busErr = s.busErr := rfl
@[simp] theorem countEdge_lastValid : (s.countEdge).lastValid = s.lastValid := rfl
@[simp] theorem countEdge_start : (s.countEdge).start = s.start := rfl
@[simp] theorem countEdge_trace : (s.countEdge).trace = s.trace := rfl
@[simp] theorem countEdge_params : (s.countEdge).params = s.params := rfl
@[simp] theorem countEdge_answers : (s.countEdge).answers = s.answers := rfl
@[simp] theorem countEdge_inputs : (s.countEdge).inputs = s.inputs := rfl
@[simp] theorem countEdge_responses : (s.countEdge).responses = s.responses := rfl

/-! ### `latchSample` -/

@[simp] theorem latchSample_lastSample (v : Sample) : (s.latchSample v).lastSample = v := rfl
@[simp] theorem latchSample_edgeCount (v : Sample) : (s.latchSample v).edgeCount = s.edgeCount := rfl
@[simp] theorem latchSample_windowStart (v : Sample) : (s.latchSample v).windowStart = s.windowStart := rfl
@[simp] theorem latchSample_bufValid (v : Sample) : (s.latchSample v).bufValid = s.bufValid := rfl
@[simp] theorem latchSample_cap (v : Sample) : (s.latchSample v).cap = s.cap := rfl
@[simp] theorem latchSample_head (v : Sample) : (s.latchSample v).head = s.head := rfl
@[simp] theorem latchSample_count (v : Sample) : (s.latchSample v).count = s.count := rfl
@[simp] theorem latchSample_sum (v : Sample) : (s.latchSample v).sum = s.sum := rfl
@[simp] theorem latchSample_buf (v : Sample) : (s.latchSample v).buf = s.buf := rfl
@[simp] theorem latchSample_time (v : Sample) : (s.latchSample v).time = s.time := rfl
@[simp] theorem latchSample_winArmed (v : Sample) : (s.latchSample v).winArmed = s.winArmed := rfl
@[simp] theorem latchSample_edgeEn (v : Sample) : (s.latchSample v).edgeEn = s.edgeEn := rfl
@[simp] theorem latchSample_edgePending (v : Sample) : (s.latchSample v).edgePending = s.edgePending := rfl
@[simp] theorem latchSample_edgeOverrun (v : Sample) : (s.latchSample v).edgeOverrun = s.edgeOverrun := rfl
@[simp] theorem latchSample_busErr (v : Sample) : (s.latchSample v).busErr = s.busErr := rfl
@[simp] theorem latchSample_lastValid (v : Sample) : (s.latchSample v).lastValid = true := rfl
@[simp] theorem latchSample_start (v : Sample) : (s.latchSample v).start = s.start := rfl
@[simp] theorem latchSample_trace (v : Sample) : (s.latchSample v).trace = s.trace := rfl
@[simp] theorem latchSample_params (v : Sample) : (s.latchSample v).params = s.params := rfl
@[simp] theorem latchSample_answers (v : Sample) : (s.latchSample v).answers = s.answers := rfl
@[simp] theorem latchSample_inputs (v : Sample) : (s.latchSample v).inputs = s.inputs := rfl
@[simp] theorem latchSample_responses (v : Sample) : (s.latchSample v).responses = s.responses := rfl

/-! ### `flagBusError` -/

@[simp] theorem flagBusError_lastSample : (s.flagBusError).lastSample = s.lastSample := rfl
@[simp] theorem flagBusError_edgeCount : (s.flagBusError).edgeCount = s.edgeCount := rfl
@[simp] theorem flagBusError_windowStart : (s.flagBusError).windowStart = s.windowStart := rfl
@[simp] theorem flagBusError_bufValid : (s.flagBusError).bufValid = s.bufValid := rfl
@[simp] theorem flagBusError_cap : (s.flagBusError).cap = s.cap := rfl
@[simp] theorem flagBusError_head : (s.flagBusError).head = s.head := rfl
@[simp] theorem flagBusError_count : (s.flagBusError).count = s.count := rfl
@[simp] theorem flagBusError_sum : (s.flagBusError).sum = s.sum := rfl
@[simp] theorem flagBusError_buf : (s.flagBusError).buf = s.buf := rfl
@[simp] theorem flagBusError_time : (s.flagBusError).time = s.time := rfl
@[simp] theorem flagBusError_winArmed : (s.flagBusError).winArmed = s.winArmed := rfl
@[simp] theorem flagBusError_edgeEn : (s.flagBusError).edgeEn = s.edgeEn := rfl
@[simp] theorem flagBusError_edgePending : (s.flagBusError).edgePending = s.edgePending := rfl
@[simp] theorem flagBusError_edgeOverrun : (s.flagBusError).edgeOverrun = s.edgeOverrun := rfl
@[simp] theorem flagBusError_busErr : (s.flagBusError).busErr = true := rfl
@[simp] theorem flagBusError_lastValid : (s.flagBusError).lastValid = s.lastValid := rfl
@[simp] theorem flagBusError_start : (s.flagBusError).start = s.start := rfl
@[simp] theorem flagBusError_trace : (s.flagBusError).trace = s.trace := rfl
@[simp] theorem flagBusError_params : (s.flagBusError).params = s.params := rfl
@[simp] theorem flagBusError_answers : (s.flagBusError).answers = s.answers := rfl
@[simp] theorem flagBusError_inputs : (s.flagBusError).inputs = s.inputs := rfl
@[simp] theorem flagBusError_responses : (s.flagBusError).responses = s.responses := rfl

/-! ### `clearPending` -/

@[simp] theorem clearPending_lastSample : (s.clearPending).lastSample = s.lastSample := rfl
@[simp] theorem clearPending_edgeCount : (s.clearPending).edgeCount = s.edgeCount := rfl
@[simp] theorem clearPending_windowStart : (s.clearPending).windowStart = s.windowStart := rfl
@[simp] theorem clearPending_bufValid : (s.clearPending).bufValid = s.bufValid := rfl
@[simp] theorem clearPending_cap : (s.clearPending).cap = s.cap := rfl
@[simp] theorem clearPending_head : (s.clearPending).head = s.head := rfl
@[simp] theorem clearPending_count : (s.clearPending).count = s.count := rfl
@[simp] theorem clearPending_sum : (s.clearPending).sum = s.sum := rfl
@[simp] theorem clearPending_buf : (s.clearPending).buf = s.buf := rfl
@[simp] theorem clearPending_time : (s.clearPending).time = s.time := rfl
@[simp] theorem clearPending_winArmed : (s.clearPending).winArmed = s.winArmed := rfl
@[simp] theorem clearPending_edgeEn : (s.clearPending).edgeEn = s.edgeEn := rfl
@[simp] theorem clearPending_edgePending : (s.clearPending).edgePending = false := rfl
@[simp] theorem clearPending_edgeOverrun : (s.clearPending).edgeOverrun = s.edgeOverrun := rfl
@[simp] theorem clearPending_busErr : (s.clearPending).busErr = s.busErr := rfl
@[simp] theorem clearPending_lastValid : (s.clearPending).lastValid = s.lastValid := rfl
@[simp] theorem clearPending_start : (s.clearPending).start = s.start := rfl
@[simp] theorem clearPending_trace : (s.clearPending).trace = s.trace := rfl
@[simp] theorem clearPending_params : (s.clearPending).params = s.params := rfl
@[simp] theorem clearPending_answers : (s.clearPending).answers = s.answers := rfl
@[simp] theorem clearPending_inputs : (s.clearPending).inputs = s.inputs := rfl
@[simp] theorem clearPending_responses : (s.clearPending).responses = s.responses := rfl

/-! ### `latchEdge` -/

@[simp] theorem latchEdge_lastSample : (s.latchEdge).lastSample = s.lastSample := rfl
@[simp] theorem latchEdge_edgeCount : (s.latchEdge).edgeCount = s.edgeCount := rfl
@[simp] theorem latchEdge_windowStart : (s.latchEdge).windowStart = s.windowStart := rfl
@[simp] theorem latchEdge_bufValid : (s.latchEdge).bufValid = s.bufValid := rfl
@[simp] theorem latchEdge_cap : (s.latchEdge).cap = s.cap := rfl
@[simp] theorem latchEdge_head : (s.latchEdge).head = s.head := rfl
@[simp] theorem latchEdge_count : (s.latchEdge).count = s.count := rfl
@[simp] theorem latchEdge_sum : (s.latchEdge).sum = s.sum := rfl
@[simp] theorem latchEdge_buf : (s.latchEdge).buf = s.buf := rfl
@[simp] theorem latchEdge_time : (s.latchEdge).time = s.time := rfl
@[simp] theorem latchEdge_winArmed : (s.latchEdge).winArmed = s.winArmed := rfl
@[simp] theorem latchEdge_edgeEn : (s.latchEdge).edgeEn = s.edgeEn := rfl
@[simp] theorem latchEdge_edgePending : (s.latchEdge).edgePending = true := rfl
@[simp] theorem latchEdge_edgeOverrun : (s.latchEdge).edgeOverrun = (s.edgeOverrun || s.edgePending) := rfl
@[simp] theorem latchEdge_busErr : (s.latchEdge).busErr = s.busErr := rfl
@[simp] theorem latchEdge_lastValid : (s.latchEdge).lastValid = s.lastValid := rfl
@[simp] theorem latchEdge_start : (s.latchEdge).start = s.start := rfl
@[simp] theorem latchEdge_trace : (s.latchEdge).trace = s.trace := rfl
@[simp] theorem latchEdge_params : (s.latchEdge).params = s.params := rfl
@[simp] theorem latchEdge_answers : (s.latchEdge).answers = s.answers := rfl
@[simp] theorem latchEdge_inputs : (s.latchEdge).inputs = s.inputs := rfl
@[simp] theorem latchEdge_responses : (s.latchEdge).responses = s.responses := rfl

/-! ### `clearSticky` -/

@[simp] theorem clearSticky_lastSample : (s.clearSticky).lastSample = s.lastSample := rfl
@[simp] theorem clearSticky_edgeCount : (s.clearSticky).edgeCount = s.edgeCount := rfl
@[simp] theorem clearSticky_windowStart : (s.clearSticky).windowStart = s.windowStart := rfl
@[simp] theorem clearSticky_bufValid : (s.clearSticky).bufValid = s.bufValid := rfl
@[simp] theorem clearSticky_cap : (s.clearSticky).cap = s.cap := rfl
@[simp] theorem clearSticky_head : (s.clearSticky).head = s.head := rfl
@[simp] theorem clearSticky_count : (s.clearSticky).count = s.count := rfl
@[simp] theorem clearSticky_sum : (s.clearSticky).sum = s.sum := rfl
@[simp] theorem clearSticky_buf : (s.clearSticky).buf = s.buf := rfl
@[simp] theorem clearSticky_time : (s.clearSticky).time = s.time := rfl
@[simp] theorem clearSticky_winArmed : (s.clearSticky).winArmed = s.winArmed := rfl
@[simp] theorem clearSticky_edgeEn : (s.clearSticky).edgeEn = s.edgeEn := rfl
@[simp] theorem clearSticky_edgePending : (s.clearSticky).edgePending = s.edgePending := rfl
@[simp] theorem clearSticky_edgeOverrun : (s.clearSticky).edgeOverrun = false := rfl
@[simp] theorem clearSticky_busErr : (s.clearSticky).busErr = false := rfl
@[simp] theorem clearSticky_lastValid : (s.clearSticky).lastValid = s.lastValid := rfl
@[simp] theorem clearSticky_start : (s.clearSticky).start = s.start := rfl
@[simp] theorem clearSticky_trace : (s.clearSticky).trace = s.trace := rfl
@[simp] theorem clearSticky_params : (s.clearSticky).params = s.params := rfl
@[simp] theorem clearSticky_answers : (s.clearSticky).answers = s.answers := rfl
@[simp] theorem clearSticky_inputs : (s.clearSticky).inputs = s.inputs := rfl
@[simp] theorem clearSticky_responses : (s.clearSticky).responses = s.responses := rfl

/-! ### `setEdgeEn` -/

@[simp] theorem setEdgeEn_lastSample (en : Bool) : (s.setEdgeEn en).lastSample = s.lastSample := rfl
@[simp] theorem setEdgeEn_edgeCount (en : Bool) : (s.setEdgeEn en).edgeCount = s.edgeCount := rfl
@[simp] theorem setEdgeEn_windowStart (en : Bool) : (s.setEdgeEn en).windowStart = s.windowStart := rfl
@[simp] theorem setEdgeEn_bufValid (en : Bool) : (s.setEdgeEn en).bufValid = s.bufValid := rfl
@[simp] theorem setEdgeEn_cap (en : Bool) : (s.setEdgeEn en).cap = s.cap := rfl
@[simp] theorem setEdgeEn_head (en : Bool) : (s.setEdgeEn en).head = s.head := rfl
@[simp] theorem setEdgeEn_count (en : Bool) : (s.setEdgeEn en).count = s.count := rfl
@[simp] theorem setEdgeEn_sum (en : Bool) : (s.setEdgeEn en).sum = s.sum := rfl
@[simp] theorem setEdgeEn_buf (en : Bool) : (s.setEdgeEn en).buf = s.buf := rfl
@[simp] theorem setEdgeEn_time (en : Bool) : (s.setEdgeEn en).time = s.time := rfl
@[simp] theorem setEdgeEn_winArmed (en : Bool) : (s.setEdgeEn en).winArmed = s.winArmed := rfl
@[simp] theorem setEdgeEn_edgeEn (en : Bool) : (s.setEdgeEn en).edgeEn = en := rfl
@[simp] theorem setEdgeEn_edgePending (en : Bool) : (s.setEdgeEn en).edgePending = s.edgePending := rfl
@[simp] theorem setEdgeEn_edgeOverrun (en : Bool) : (s.setEdgeEn en).edgeOverrun = s.edgeOverrun := rfl
@[simp] theorem setEdgeEn_busErr (en : Bool) : (s.setEdgeEn en).busErr = s.busErr := rfl
@[simp] theorem setEdgeEn_lastValid (en : Bool) : (s.setEdgeEn en).lastValid = s.lastValid := rfl
@[simp] theorem setEdgeEn_start (en : Bool) : (s.setEdgeEn en).start = s.start := rfl
@[simp] theorem setEdgeEn_trace (en : Bool) : (s.setEdgeEn en).trace = s.trace := rfl
@[simp] theorem setEdgeEn_params (en : Bool) : (s.setEdgeEn en).params = s.params := rfl
@[simp] theorem setEdgeEn_answers (en : Bool) : (s.setEdgeEn en).answers = s.answers := rfl
@[simp] theorem setEdgeEn_inputs (en : Bool) : (s.setEdgeEn en).inputs = s.inputs := rfl
@[simp] theorem setEdgeEn_responses (en : Bool) : (s.setEdgeEn en).responses = s.responses := rfl

/-! ### `advanceTime` -/

@[simp] theorem advanceTime_lastSample : (s.advanceTime).lastSample = s.lastSample := rfl
@[simp] theorem advanceTime_edgeCount : (s.advanceTime).edgeCount = s.edgeCount := rfl
@[simp] theorem advanceTime_windowStart : (s.advanceTime).windowStart = s.windowStart := rfl
@[simp] theorem advanceTime_bufValid : (s.advanceTime).bufValid = s.bufValid := rfl
@[simp] theorem advanceTime_cap : (s.advanceTime).cap = s.cap := rfl
@[simp] theorem advanceTime_head : (s.advanceTime).head = s.head := rfl
@[simp] theorem advanceTime_count : (s.advanceTime).count = s.count := rfl
@[simp] theorem advanceTime_sum : (s.advanceTime).sum = s.sum := rfl
@[simp] theorem advanceTime_buf : (s.advanceTime).buf = s.buf := rfl
@[simp] theorem advanceTime_time : (s.advanceTime).time = s.time + 1 := rfl
@[simp] theorem advanceTime_winArmed : (s.advanceTime).winArmed = s.winArmed := rfl
@[simp] theorem advanceTime_edgeEn : (s.advanceTime).edgeEn = s.edgeEn := rfl
@[simp] theorem advanceTime_edgePending : (s.advanceTime).edgePending = s.edgePending := rfl
@[simp] theorem advanceTime_edgeOverrun : (s.advanceTime).edgeOverrun = s.edgeOverrun := rfl
@[simp] theorem advanceTime_busErr : (s.advanceTime).busErr = s.busErr := rfl
@[simp] theorem advanceTime_lastValid : (s.advanceTime).lastValid = s.lastValid := rfl
@[simp] theorem advanceTime_start : (s.advanceTime).start = s.start := rfl
@[simp] theorem advanceTime_trace : (s.advanceTime).trace = s.trace := rfl
@[simp] theorem advanceTime_params : (s.advanceTime).params = s.params := rfl
@[simp] theorem advanceTime_answers : (s.advanceTime).answers = s.answers := rfl
@[simp] theorem advanceTime_inputs : (s.advanceTime).inputs = s.inputs := rfl
@[simp] theorem advanceTime_responses : (s.advanceTime).responses = s.responses := rfl

/-! ### `finish` -/

@[simp] theorem finish_lastSample (r : Except HostFault Data) : (s.finish r).lastSample = s.lastSample := by cases r <;> rfl
@[simp] theorem finish_edgeCount (r : Except HostFault Data) : (s.finish r).edgeCount = s.edgeCount := by cases r <;> rfl
@[simp] theorem finish_windowStart (r : Except HostFault Data) : (s.finish r).windowStart = s.windowStart := by cases r <;> rfl
@[simp] theorem finish_bufValid (r : Except HostFault Data) : (s.finish r).bufValid = s.bufValid := by cases r <;> rfl
@[simp] theorem finish_cap (r : Except HostFault Data) : (s.finish r).cap = s.cap := by cases r <;> rfl
@[simp] theorem finish_head (r : Except HostFault Data) : (s.finish r).head = s.head := by cases r <;> rfl
@[simp] theorem finish_count (r : Except HostFault Data) : (s.finish r).count = s.count := by cases r <;> rfl
@[simp] theorem finish_sum (r : Except HostFault Data) : (s.finish r).sum = s.sum := by cases r <;> rfl
@[simp] theorem finish_buf (r : Except HostFault Data) : (s.finish r).buf = s.buf := by cases r <;> rfl
@[simp] theorem finish_time (r : Except HostFault Data) : (s.finish r).time = s.time := by cases r <;> rfl
@[simp] theorem finish_winArmed (r : Except HostFault Data) : (s.finish r).winArmed = s.winArmed := by cases r <;> rfl
@[simp] theorem finish_edgeEn (r : Except HostFault Data) : (s.finish r).edgeEn = s.edgeEn := by cases r <;> rfl
@[simp] theorem finish_edgePending (r : Except HostFault Data) : (s.finish r).edgePending = s.edgePending := by cases r <;> rfl
@[simp] theorem finish_edgeOverrun (r : Except HostFault Data) : (s.finish r).edgeOverrun = s.edgeOverrun := by cases r <;> rfl
@[simp] theorem finish_busErr (r : Except HostFault Data) : (s.finish r).busErr = s.busErr := by cases r <;> rfl
@[simp] theorem finish_lastValid (r : Except HostFault Data) : (s.finish r).lastValid = s.lastValid := by cases r <;> rfl
@[simp] theorem finish_start (r : Except HostFault Data) : (s.finish r).start = s.start := by cases r <;> rfl
@[simp] theorem finish_trace (r : Except HostFault Data) : (s.finish r).trace = s.trace := by cases r <;> rfl
@[simp] theorem finish_params (r : Except HostFault Data) : (s.finish r).params = s.params := by cases r <;> rfl
@[simp] theorem finish_answers (r : Except HostFault Data) : (s.finish r).answers = s.answers := by cases r <;> rfl
@[simp] theorem finish_inputs (r : Except HostFault Data) : (s.finish r).inputs = s.inputs := by cases r <;> rfl

end Sys2Proof.Machine.State
end

