-- ==== Sys2Proof/Safety.lean ====
section
/-! DEFINITION. What counts as a safe state and a fair run, in the terms the statements use: the invariants of spec
10_state.md rule R40, the entries of the buffer oldest first (R27, R29), and the fairness of 20_memory.md rule
R70. -/

namespace Sys2Proof.Machine

/-- R40(f): every start-pin event belongs to a bracket `StartLow`, one exchange, `StartHigh`. -/
def bracketed : List BusEvent → Bool
  | [] => true
  | .xfer _ _ :: rest => bracketed rest
  | .startLow :: .xfer _ _ :: .startHigh :: rest => bracketed rest
  | _ => false

/-- An event of the trace without the bytes received in it: what the block sent, and whether the exchange
succeeded. -/
def withoutReceived : BusEvent → BusEvent
  | .xfer tx rx => .xfer tx (rx.map fun _ => [])
  | .startLow => .startLow
  | .startHigh => .startHigh

/-- The filled entries, by index: `0..COUNT-1`, which is all of `0..CAP-1` once the buffer is full (R29). -/
def State.filled (s : State) : List Sample := (List.range s.count.toNat).filterMap (Memory.read s.buf)

/-- The index of the oldest entry: `HEAD` once the buffer is full, 0 before that (R27). -/
def State.oldestIndex (s : State) : Nat := if s.count = s.cap then s.head.toNat else 0

/-- The filled entries, oldest first: `COUNT` of them from the oldest on, around the ring. -/
def State.recent (s : State) : List Sample :=
  (List.range s.count.toNat).filterMap fun j => Memory.read s.buf ((s.oldestIndex + j) % s.cap.toNat)

/-- The sum of signed samples as a mathematical integer. -/
def sampleSum (l : List Sample) : Int := (l.map BitVec.toInt).sum

/-- The last `n` elements of a list, all of it if it is shorter. -/
def lastN {α : Type} (n : Nat) (l : List α) : List α := l.drop (l.length - n)

/-- The invariants of R40, with the canonical form of the buffer space and the fact that a filled entry holds a
value (R29). -/
structure BlockInv (s : State) : Prop where
  /-- R40(a). -/
  startHigh : s.start = true
  /-- R40(b). -/
  capRange : s.bufValid = true → 1 ≤ s.cap.toNat ∧ s.cap.toNat ≤ 16384
  /-- R40(b). -/
  countLe : s.bufValid = true → s.count.toNat ≤ s.cap.toNat
  /-- R40(b). -/
  headLt : s.bufValid = true → s.head.toNat < s.cap.toNat
  /-- R40(b). -/
  headEqCount : s.bufValid = true → s.count.toNat < s.cap.toNat → s.head.toNat = s.count.toNat
  /-- R28, R40(b). -/
  sumExact : s.bufValid = true → s.sum.toInt = sampleSum s.filled
  /-- R40(c). -/
  pendingEnabled : s.edgePending = true → s.edgeEn = true
  /-- R40(d). -/
  lastUnwritten : s.lastValid = false → s.lastSample = 0
  /-- R40(e). -/
  noBuffer : s.bufValid = false → s.cap = 0 ∧ s.count = 0 ∧ s.head = 0 ∧ s.sum = 0
  /-- R40(f). -/
  traceBracketed : bracketed s.trace = true
  /-- R29: a filled entry holds a value. -/
  filledHoldValues : s.bufValid = true → ∀ j < s.count.toNat, ∃ v, Memory.read s.buf j = some v
  /-- The canonical form of the buffer space. -/
  bufCanonical : Memory.wf s.buf = true

/-- The next input is enabled: `EDGE_SERVICE` only while an edge is pending (R70, R161). -/
def State.nextEnabled (s : State) : Prop := s.inputs.head? = some .service → s.edgePending = true

/-- Whether the exchange of the frame `tx` succeeds in this state: the device says so, or `BUS_CAN_FAIL` is false
(R66). -/
def State.exchangeOk (s : State) (tx : List Byte) : Bool := (s.deviceAnswer tx).ok || !s.params.busCanFail

/-- An unending run: every input is performed and gives the next state (R70). -/
structure Execution where
  state : Nat → State
  event : Nat → Input
  follows : ∀ n, perform (event n) (state n) = .next (state (n + 1))

/-- The fairness of R70: a pending service and a tick each eventually happen. A pending edge that `IRQ_DIS`
discards is pending no longer. -/
def Execution.Fair (e : Execution) : Prop :=
  (∀ n, (e.state n).edgePending = true → ∃ m, n ≤ m ∧ (e.event m = .service ∨ (e.state m).edgePending = false)) ∧
    ∀ n, ∃ m, n ≤ m ∧ e.event m = .tick

end Sys2Proof.Machine
end

