-- ==== Sys2Proof/Laws/Ops.lean ====
section
/-! SUPPORT. One lemma for each shared operation that says once everything it can do; later proofs cite it and do
not unfold the operation. -/

namespace Sys2Proof.Machine

variable {s t : State}

/-! ### The exchange primitive -/

@[simp] theorem Answer.received_getElem (a : Answer) (n : Nat) (h : n ≤ 6) (i : Nat) (hi : i < n) :
    (Answer.received a n h)[i] = a.bytes[i]'(Nat.lt_of_lt_of_le hi h) := by
  simp [Answer.received]

@[simp] theorem Answer.received_two (a : Answer) (h : 2 ≤ 6) :
    (Answer.received a 2 h).toList = [a.bytes[0], a.bytes[1]] := by
  simp [Answer.received, Vector.toList, Vector.ofFn]

@[simp] theorem Answer.received_three (a : Answer) (h : 3 ≤ 6) :
    (Answer.received a 3 h).toList = [a.bytes[0], a.bytes[1], a.bytes[2]] := by
  simp [Answer.received, Vector.toList, Vector.ofFn]

@[simp] theorem Answer.received_six (a : Answer) (h : 6 ≤ 6) :
    (Answer.received a 6 h).toList =
      [a.bytes[0], a.bytes[1], a.bytes[2], a.bytes[3], a.bytes[4], a.bytes[5]] := by
  simp [Answer.received, Vector.toList, Vector.ofFn]

theorem State.xferResult_of_ok {n : Nat} {tx : Vector Byte n} (h : n ≤ 6) (hok : s.exchangeOk tx.toList = true) :
    s.xferResult tx h = some (Answer.received (s.deviceAnswer tx.toList) n h) := by
  simp only [State.xferResult, State.exchangeOk] at *
  simp [hok]

theorem State.xferResult_of_failed {n : Nat} {tx : Vector Byte n} (h : n ≤ 6)
    (hok : s.exchangeOk tx.toList = false) : s.xferResult tx h = none := by
  simp only [State.xferResult, State.exchangeOk] at *
  simp [hok]

/-- The device is asked for its next answer or, with none scripted, for the oracle's: nothing else of the state
matters to what it answers. -/
theorem State.deviceAnswer_congr (ha : s.answers = t.answers) (ht : s.trace = t.trace) (tx : List Byte) :
    s.deviceAnswer tx = t.deviceAnswer tx := by
  simp only [State.deviceAnswer, ha, ht]

@[simp] theorem busResult_some (d : Data) : busResult (some d) = .ok d := rfl
@[simp] theorem busResult_none : busResult none = .error .busError := rfl

/-! ### The frames and the window predicate -/

@[simp] theorem readFrame_toList (p : Params) (addr : RegAddr) :
    (readFrame p addr).toList = [0x20 + addr.setWidth 8, 0x00, 0x00] := rfl
@[simp] theorem writeFrame_toList (p : Params) (addr : RegAddr) (value : Byte) :
    (writeFrame p addr value).toList = [0x40 + addr.setWidth 8, value] := rfl
@[simp] theorem sampleFrame_toList (p : Params) : (sampleFrame p).toList = [0x12, 0x00, 0x00, 0x00, 0x00, 0x00] := rfl
@[simp] theorem calibrationFrame_toList (p : Params) : (calibrationFrame p).toList = [0x19, 0x00] := rfl

/-- R31: the window predicate as a statement about the elapsed ticks. -/
theorem State.inWindow_iff : s.inWindow = true ↔ s.winArmed = true ∧ s.time - s.windowStart < s.params.windowTicks := by
  simp only [State.inWindow, Bool.and_eq_true, decide_eq_true_eq]

/-! ### Stops and next states -/

@[simp] theorem andThen_eq_next {o : Host.Outcome State Fault Refusal} {f : State → State} :
    andThen o f = .next t ↔ ∃ u, o = .next u ∧ t = f u := by
  cases o <;> simp [andThen, eq_comm]

/-- Everything `MavAdd` can do when it answers a next state: a buffer that is not full gains an entry, a full one
loses the value it held at `HEAD`. -/
theorem State.mavAdd_next {v : Sample} (h : s.mavAdd v = .next t) :
    (s.count ≠ s.cap ∧ t = s.storeSample v s.sum (s.count + 1)) ∨
      ∃ old, s.count = s.cap ∧ Memory.read s.buf s.head.toNat = some old ∧
        t = s.storeSample v (s.sum - sext48 old) s.count := by
  simp only [State.mavAdd] at h
  split at h
  · split at h
    · next old hold =>
      cases h
      exact .inr ⟨old, ‹_›, hold, rfl⟩
    · cases h
  · cases h
    exact .inl ⟨‹_›, rfl⟩

/-- A store changes the entry at `HEAD` and no other. -/
theorem State.storeSample_read (v : Sample) (b : RunningSum) (c : Capacity) (j : Nat) :
    Memory.read (s.storeSample v b c).buf j =
      if j = s.head.toNat then some v else Memory.read s.buf j := by
  split
  · subst j; simp
  · simp [Memory.read_write_other _ _ ‹_›]

/-- Everything the service of an edge outside a window can do when it answers a next state (`s` has its expired
window closed). -/
theorem serviceSample_next (h : serviceSample s = .next t) :
    (s.rawSample = none ∧ t = s.afterRawSample.flagBusError) ∨
      ∃ v, s.rawSample = some v ∧
        ((s.bufValid = false ∧ t = s.afterRawSample.latchSample v) ∨
          (s.bufValid = true ∧ (s.afterRawSample.latchSample v).mavAdd v = .next t)) := by
  simp only [serviceSample] at h
  split at h
  · next v hv =>
    refine .inr ⟨v, hv, ?_⟩
    split at h
    · next hb => exact .inr ⟨by simpa using hb, h⟩
    · next hb =>
      cases h
      exact .inl ⟨by simpa using hb, rfl⟩
  · next hv =>
    cases h
    exact .inl ⟨hv, rfl⟩

@[simp] theorem clearPending_inWindow : s.clearPending.inWindow = s.inWindow := rfl

/-- Everything `EDGE_SERVICE` can do when it answers a next state. -/
theorem edgeService_next (h : edgeService s = .next t) :
    s.edgePending = true ∧
      ((s.inWindow = true ∧ t = s.clearPending.countEdge) ∨
        (s.inWindow = false ∧ serviceSample s.clearPending.closeWindow = .next t)) := by
  simp only [edgeService] at h
  split at h
  · next hp =>
    refine ⟨hp, ?_⟩
    simp only [serviceBody] at h
    split at h
    · next hw =>
      cases h
      exact .inl ⟨hw, rfl⟩
    · next hw => exact .inr ⟨Bool.eq_false_iff.mpr hw, h⟩
  · cases h

/-- `EDGE` in one equation: a latched edge or nothing. -/
theorem edgeArrives_next (h : edgeArrives s = .next t) :
    (s.edgeEn = true ∧ t = s.latchEdge) ∨ (s.edgeEn = false ∧ t = s) := by
  simp only [edgeArrives, Host.Outcome.next.injEq] at h
  split at h
  · exact .inl ⟨‹_›, h.symm⟩
  · next he => exact .inr ⟨by simpa using he, h.symm⟩

/-- Everything `MAV_CREATE` can do. -/
theorem execMavCreate_next {cap : BitVec 32} (h : execMavCreate cap s = .next t) :
    (cap.toNat = 0 ∧ t = s.raise .invalidCapacity) ∨
      (16384 < cap.toNat ∧ t = s.raise .capacityExceeded) ∨
      (1 ≤ cap.toNat ∧ cap.toNat ≤ 16384 ∧ t = (s.installBuffer (cap.setWidth 15)).respondOk 0) := by
  simp only [execMavCreate, Params.maxCap_eq] at h
  split at h
  · cases h; exact .inl ⟨‹_›, rfl⟩
  · split at h
    · cases h; exact .inr (.inl ⟨‹_›, rfl⟩)
    · cases h; exact .inr (.inr ⟨by omega, by omega, rfl⟩)

/-- Everything `MAV_ADD` can do when it answers a next state. -/
theorem execMavAdd_next {v : Sample} (h : execMavAdd v s = .next t) :
    (s.bufValid = false ∧ t = s.raise .noBuffer) ∨
      (s.bufValid = true ∧ ∃ u, s.mavAdd v = .next u ∧ t = u.respondOk 0) := by
  simp only [execMavAdd] at h
  split at h
  · next hb => exact .inr ⟨hb, andThen_eq_next.mp h⟩
  · next hb =>
    cases h
    exact .inl ⟨by simpa using hb, rfl⟩

/-! ### The step -/

/-- A step with an input at hand performs it; without one it changes nothing. -/
theorem step_of_input {e : Input} {rest : List Input} (h : s.inputs = e :: rest) :
    step s = perform e { s with inputs := rest } := by
  simp [step, h]

theorem step_of_no_input (h : s.inputs = []) : step s = .next s := by
  simp [step, h]

theorem perform_of_decode {w : CommandWord} {i : Instr} (h : decode w = .ok i) :
    perform (.command w) s = exec i s := by
  simp [perform, h]

/-- A schedule with inputs left is used up by one input at each step. -/
theorem step_next {t : State} (h : step s = .next t) :
    (s.inputs = [] ∧ t = s) ∨
      ∃ e rest, s.inputs = e :: rest ∧ perform e { s with inputs := rest } = .next t := by
  cases hi : s.inputs with
  | nil => simp only [step, hi, Host.Outcome.next.injEq] at h; exact .inl ⟨rfl, h.symm⟩
  | cons e rest => simp only [step, hi] at h; exact .inr ⟨e, rest, rfl, h⟩

/-! ### The trace -/

/-- Brackets on both sides stay brackets when traces are joined. -/
theorem bracketed_append {a b : List BusEvent} (ha : bracketed a = true) (hb : bracketed b = true) :
    bracketed (a ++ b) = true := by
  induction a using bracketed.induct with
  | case1 => exact hb
  | case2 tx rx rest ih => simpa [bracketed] using ih (by simpa [bracketed] using ha)
  | case3 tx rx rest ih => simpa [bracketed] using ih (by simpa [bracketed] using ha)
  | case4 l h1 h2 h3 => simp [bracketed] at ha

/-! ### Reset -/

theorem resetWith_buf_wf (p : Params) (t : Ticks) : Memory.wf (State.resetWith p t).buf = true := rfl

end Sys2Proof.Machine
end

