-- ==== Sys2Proof/Laws/PerInstr.lean ====
section
/-! SUPPORT. Facts about every command as syntax, one lemma for each constructor. Family `InRow`: the words the
encoder gives a command lie in the command's own row of the operation map (spec 30_encoding.md rules R92, R96). -/

namespace Sys2Proof.Laws.InRow

/-- The command's row of the operation map matches its command word. -/
def Statement (i : Instr) : Prop :=
  ∃ r ∈ opcodeTable, r.mnemonic = i.mnemonic ∧ encode i &&& r.mask = r.pattern

theorem rdata : Statement .rdata := by unfold Statement; decide
theorem sfocal : Statement .sfocal := by unfold Statement; decide

theorem rreg (addr : RegAddr) : Statement (.rreg addr) :=
  ⟨⟨"RREG", 0x2000000000, 0xE0FFFFFFFF⟩, by decide, rfl, by revert addr; decide⟩

theorem wreg (addr : RegAddr) (value : Byte) : Statement (.wreg addr value) :=
  ⟨⟨"WREG", 0x4000000000, 0xE0FFFFFF00⟩, by decide, rfl, by
    have hop : ((0b010 : BitVec 3) ++ addr : Byte) &&& 0xE0 = 0x40 := by revert addr; decide
    have harg : ((0 : BitVec 24) ++ value : BitVec 32) &&& 0xFFFFFF00 = 0 := by revert value; decide
    exact (commandWord_and _ 0xE0 _ 0xFFFFFF00).trans (by rw [hop, harg]; rfl)⟩

theorem mavCreate (cap : BitVec 32) : Statement (.mavCreate cap) :=
  ⟨⟨"MAV_CREATE", 0x8000000000, 0xFF00000000⟩, by decide, rfl,
    (commandWord_and 0x80 0xFF cap 0).trans (by simp [commandWord])⟩

theorem mavAdd (v : Sample) : Statement (.mavAdd v) :=
  ⟨⟨"MAV_ADD", 0x8100000000, 0xFF00000000⟩, by decide, rfl,
    (commandWord_and 0x81 0xFF v 0).trans (by simp [commandWord])⟩

theorem mavAvg : Statement .mavAvg := by unfold Statement; decide
theorem mavClear : Statement .mavClear := by unfold Statement; decide
theorem mavSnap : Statement .mavSnap := by unfold Statement; decide
theorem winOpen : Statement .winOpen := by unfold Statement; decide
theorem winPoll : Statement .winPoll := by unfold Statement; decide
theorem getLast : Statement .getLast := by unfold Statement; decide
theorem getCount : Statement .getCount := by unfold Statement; decide
theorem getStatus : Statement .getStatus := by unfold Statement; decide
theorem clrStatus : Statement .clrStatus := by unfold Statement; decide
theorem irqEn : Statement .irqEn := by unfold Statement; decide
theorem irqDis : Statement .irqDis := by unfold Statement; decide
theorem getTime : Statement .getTime := by unfold Statement; decide

end Sys2Proof.Laws.InRow
end

