-- ==== Sys2Proof/Machine/Fields.lean ====
section
/-! DEFINITION. The field functions on a device register byte (spec 44_config_accessors.md rules R190 to R194): pure
functions of the host, never applied inside the block (R99, R101). `INVALID` is `none` (decision D32). -/

namespace Sys2Proof.Machine

/-- The four acquisition modes (R191). -/
inductive AcqMode where
  | normal
  | chop
  | twoWireAc
  | fourWireAc
  deriving DecidableEq, Repr

/-- The code of a mode (R191), from the configuration record (R5). -/
def modeCode (p : Params) : AcqMode → BitVec 2
  | .normal => p.modeCodes.normal
  | .chop => p.modeCodes.chop
  | .twoWireAc => p.modeCodes.twoWireAc
  | .fourWireAc => p.modeCodes.fourWireAc

/-- `mode_get(b) = b[6:5]` (R190). -/
def modeGet (b : Byte) : BitVec 2 := b.extractLsb' 5 2

/-- `mode_set(b, m) = (b and 0x9F) or (m << 5)` (R190). -/
def modeSet (b : Byte) (m : BitVec 2) : Byte := (b &&& 0x9F#8) ||| ((m.setWidth 8 : Byte) <<< 5)

/-- A 4-bit code if it is among the valid ones, else `INVALID` (R192, R194). -/
def validCode (valid : List (BitVec 4)) (c : BitVec 4) : Option (BitVec 4) :=
  if valid.contains c then some c else none

/-- `rate_get(b)`: `b[6:3]` if it is in `DR_VALID`, else `INVALID` (R192). -/
def rateGet (p : Params) (b : Byte) : Option (BitVec 4) := validCode p.drValid (b.extractLsb' 3 4)

/-- `rate_set(b, c) = (b and 0x87) or (c << 3)`, for `c` in `DR_VALID` (R192). -/
def rateSet (b : Byte) (c : BitVec 4) : Byte := (b &&& 0x87#8) ||| ((c.setWidth 8 : Byte) <<< 3)

/-- `mux_pack(p, n) = (p << 4) or n` (R193). -/
def muxPack (pos neg : BitVec 4) : Byte := ((pos.setWidth 8 : Byte) <<< 4) ||| (neg.setWidth 8 : Byte)

/-- `mux_unpack(b) = (sel(b[7:4]), sel(b[3:0]))` (R194). -/
def muxUnpack (p : Params) (b : Byte) : Option (BitVec 4) × Option (BitVec 4) :=
  (validCode p.muxValid (b.extractLsb' 4 4), validCode p.muxValid (b.extractLsb' 0 4))

/-- A decoded selector or rate as a byte, `INVALID` being `0xFF` (R5, decision D32). -/
def codeByte (p : Params) : Option (BitVec 4) → Byte
  | some c => c.setWidth 8
  | none => p.invalidByte

end Sys2Proof.Machine
end

