-- ==== Sys2Proof/Machine/Sequences.lean ====
section
/-! DEFINITION. The eight pseudo-operations of the host (spec 44_config_accessors.md rules R196 to R203). A sequence
is plain data that names the command it issues next; it is no state of the block and runs outside `step` (R205).
A session is a block with the sequence its host is running; edges, services and ticks may fall between two
commands of the sequence. -/

namespace Sys2Proof.Machine

/-- What a finished sequence reports. -/
inductive SeqResult where
  /-- `GET_MODE` (R196). -/
  | mode (m : BitVec 2)
  /-- `GET_RATE`; `none` is `INVALID` (R198). -/
  | rate (c : Option (BitVec 4))
  /-- `GET_MUX` (R200). -/
  | mux (pos neg : Option (BitVec 4))
  /-- A setter, `WAIT` or `CALIBRATE` ran to its end. -/
  | done
  /-- A response with this status code ended the sequence; for `CALIBRATE` a calibration failure with its cause. -/
  | failed (st : BitVec 8)
  /-- The host library refused the argument and issued no command (R199, R201). -/
  | refusedCode
  deriving DecidableEq, Repr

/-- A sequence, by the command it issues next. -/
inductive Sequence where
  | getMode
  | setModeRead (m : BitVec 2)
  | setModeWrite (value : Byte)
  | getRate
  | setRateRead (c : BitVec 4)
  | setRateWrite (value : Byte)
  | getMux
  | setMuxWrite (value : Byte)
  | waitFirst (k : Nat)
  | waitAgain (k : Nat) (t0 : Ticks)
  | calCommand
  | calSettleFirst
  | calSettleAgain (t0 : Ticks)
  | calOpen
  | calPoll
  | calCount
  | calCreate (n : Nat)
  | calClear
  | finished (r : SeqResult)
  deriving DecidableEq, Repr

/-- `SET_MODE m` (R197). -/
def Sequence.setMode (p : Params) (m : AcqMode) : Sequence := .setModeRead (modeCode p m)

/-- `SET_RATE c`: a code outside `DR_VALID`, or `INVALID`, is refused before any command (R199). -/
def Sequence.setRate (p : Params) (c : Option (BitVec 4)) : Sequence :=
  match c.bind (validCode p.drValid) with
  | some code => .setRateRead code
  | none => .finished .refusedCode

/-- `SET_MUX p, n`: refused before any command unless both selectors are in `MUX_VALID` (R201). -/
def Sequence.setMux (p : Params) (pos neg : Option (BitVec 4)) : Sequence :=
  match pos.bind (validCode p.muxValid), neg.bind (validCode p.muxValid) with
  | some cp, some cn => .setMuxWrite (muxPack cp cn)
  | _, _ => .finished .refusedCode

/-- `WAIT k` (R202). -/
def Sequence.wait (k : Nat) : Sequence := .waitFirst k

/-- `CALIBRATE` (R203). -/
def Sequence.calibrate : Sequence := .calCommand

/-- The capacity `CALIBRATE` asks for: `min(2·n, 0xFFFFFFFF)`, the product without wrap-around (R203). -/
def calibrationCapacity (n : Nat) : BitVec 32 := BitVec.ofNat 32 (min (2 * n) 0xFFFFFFFF)

/-- The command a sequence issues next; `none` once it has finished. -/
def Sequence.command (p : Params) : Sequence → Option Instr
  | .getMode => some (.rreg p.addrMode1)
  | .setModeRead _ => some (.rreg p.addrMode1)
  | .setModeWrite v => some (.wreg p.addrMode1 v)
  | .getRate => some (.rreg p.addrMode0)
  | .setRateRead _ => some (.rreg p.addrMode0)
  | .setRateWrite v => some (.wreg p.addrMode0 v)
  | .getMux => some (.rreg p.addrInpmux)
  | .setMuxWrite v => some (.wreg p.addrInpmux v)
  | .waitFirst _ => some .getTime
  | .waitAgain _ _ => some .getTime
  | .calCommand => some .sfocal
  | .calSettleFirst => some .getTime
  | .calSettleAgain _ => some .getTime
  | .calOpen => some .winOpen
  | .calPoll => some .winPoll
  | .calCount => some .getCount
  | .calCreate n => some (.mavCreate (calibrationCapacity n))
  | .calClear => some .mavClear
  | .finished _ => none

/-- Go on with an OK response; any other ends the sequence with its status. -/
def Response.orFail (r : Response) (next : Sequence) : Sequence :=
  if r.st = 0 then next else .finished (.failed r.st)

/-- The low byte of a response's datum, `b[7:0]`. -/
def Response.byte (r : Response) : Byte := r.data.setWidth 8

/-- The low 32 bits of a response's datum, the time that `GET_TIME` returns. -/
def Response.ticks (r : Response) : Ticks := r.data.setWidth 32

/-- The result of `mux_unpack` as a sequence's result (R200). -/
def muxResult (p : Params) (b : Byte) : SeqResult := .mux (muxUnpack p b).1 (muxUnpack p b).2

/-- What the host does next on the response to the command it issued. -/
def Sequence.resume (p : Params) (q : Sequence) (r : Response) : Sequence :=
  match q with
  | .getMode => r.orFail (.finished (.mode (modeGet r.byte)))
  | .setModeRead m => r.orFail (.setModeWrite (modeSet r.byte m))
  | .setModeWrite _ => r.orFail (.finished .done)
  | .getRate => r.orFail (.finished (.rate (rateGet p r.byte)))
  | .setRateRead c => r.orFail (.setRateWrite (rateSet r.byte c))
  | .setRateWrite _ => r.orFail (.finished .done)
  | .getMux => r.orFail (.finished (muxResult p r.byte))
  | .setMuxWrite _ => r.orFail (.finished .done)
  | .waitFirst k => .waitAgain k r.ticks
  | .waitAgain k t0 => if k ≤ (r.ticks - t0).toNat then .finished .done else .waitAgain k t0
  | .calCommand => r.orFail .calSettleFirst
  | .calSettleFirst => .calSettleAgain r.ticks
  | .calSettleAgain t0 => if p.settleTicks ≤ r.ticks - t0 then .calOpen else .calSettleAgain t0
  | .calOpen => .calPoll
  | .calPoll => if r.data = 0 then .calCount else .calPoll
  | .calCount => .calCreate r.data.toNat
  | .calCreate _ => r.orFail .calClear
  | .calClear => .finished .done
  | .finished res => .finished res

/-- A block and the sequence its host is running. -/
structure Session where
  block : State
  host : Sequence
  deriving DecidableEq, Repr

/-- Which agent takes the next step of a session (R70). -/
inductive Turn where
  | host
  | edge
  | service
  | tick
  deriving DecidableEq, Repr

/-- The block after a step, with the host's sequence moved on by the response the step gave. -/
def Session.afterCommand (q : Sequence) (t : State) : Session :=
  match t.responses.getLast? with
  | some r => ⟨t, q.resume t.params r⟩
  | none => ⟨t, q⟩

/-- One turn of a session: the host issues its sequence's next command, if there is one, or an event happens. -/
def Session.turn (x : Session) (t : Turn) : Host.Outcome Session Fault Refusal :=
  let onBlock (o : Host.Outcome State Fault Refusal) (f : State → Session) : Host.Outcome Session Fault Refusal :=
    match o with
    | .next s => .next (f s)
    | .fault r => .fault r
    | .refused r => .refused r
  match t with
  | .host =>
    match x.host.command x.block.params with
    | some i => onBlock (exec i x.block) (Session.afterCommand x.host)
    | none => .next x
  | .edge => onBlock (edgeArrives x.block) (fun s => ⟨s, x.host⟩)
  | .service => onBlock (edgeService x.block) (fun s => ⟨s, x.host⟩)
  | .tick => onBlock (tick x.block) (fun s => ⟨s, x.host⟩)

/-- A session over a list of turns, in order; it stops at the first stop. -/
def Session.run : List Turn → Session → Host.Outcome Session Fault Refusal
  | [], x => .next x
  | t :: rest, x =>
    match x.turn t with
    | .next y => Session.run rest y
    | .fault r => .fault r
    | .refused r => .refused r

end Sys2Proof.Machine
end

