-- ==== Sys2Proof/WellFormed.lean ====
section
/-! DEFINITION. What is checked rather than typed: the configuration record (spec 00_scope.md rule R5) and a line
of a host program as it is written (30_encoding.md rule R103). A term of `Instr` needs no check, since its
fields have the widths of the command formats. -/

namespace Sys2Proof

/-- The six addresses of the named registers, in D0's order (R36). -/
def Params.addresses (p : Params) : List RegAddr :=
  [p.addrId, p.addrStatus, p.addrMode0, p.addrMode1, p.addrInpmux, p.addrPga]

/-- The four mode codes, in the order of R191. -/
def ModeCodes.toList (c : ModeCodes) : List (BitVec 2) := [c.normal, c.chop, c.twoWireAc, c.fourWireAc]

/-- R5: the window lasts one second and the settle delay a tenth of one, so the three change together (decision D18);
the four modes have four codes; the addresses are pairwise distinct; thirteen rate codes and six selector codes are
valid. -/
def Params.wf (p : Params) : Bool :=
  (p.windowTicks == p.tickHz && p.settleTicks == p.tickHz / 10) && decide p.modeCodes.toList.Nodup &&
  decide p.addresses.Nodup
    && (decide p.drValid.Nodup && p.drValid.length == 13)
    && (decide p.muxValid.Nodup && p.muxValid.length == 6)

/-- An operand of a host program line: a number, or a device register named by its parameter (R103). -/
inductive Operand where
  | num (n : Int)
  | reg (r : DeviceReg)
  deriving DecidableEq, Repr

/-- One line of a host program: a mnemonic and its operands (R103). -/
structure SourceLine where
  mnemonic : String
  operands : List Operand
  deriving DecidableEq, Repr

/-- The mnemonics that stand alone (R103), the event steps without a count among them. -/
def bareMnemonics : List String :=
  ["RDATA", "SFOCAL", "MAV_AVG", "MAV_CLEAR", "MAV_SNAP", "WIN_OPEN", "WIN_POLL", "GET_LAST", "GET_COUNT",
   "GET_STATUS", "CLR_STATUS", "IRQ_EN", "IRQ_DIS", "GET_TIME", "EDGE", "EDGE_SERVICE"]

/-- An operand that names a device register address: a register's parameter, or a number of 5 bits (R62). -/
def Operand.isAddr : Operand → Bool
  | .num n => decide (0 ≤ n) && decide (n < 32)
  | .reg _ => true

/-- A line has the form R103 gives its mnemonic and its numbers fit the fields of R91: `addr` 5 bits, `value`
8 bits, the capacity an unsigned and the sample a signed 32-bit number (R93). -/
def SourceLine.wf (l : SourceLine) : Bool :=
  match l.operands with
  | [] => bareMnemonics.contains l.mnemonic
  | [a] =>
    (l.mnemonic == "RREG" && a.isAddr) ||
    (match a with
     | .num n =>
       (l.mnemonic == "MAV_CREATE" && decide (0 ≤ n) && decide (n < 4294967296)) ||
       (l.mnemonic == "MAV_ADD" && decide (-2147483648 ≤ n) && decide (n < 2147483648)) ||
       (l.mnemonic == "TICK" && decide (0 ≤ n))
     | .reg _ => false)
  | [a, .num v] => l.mnemonic == "WREG" && a.isAddr && decide (0 ≤ v) && decide (v < 256)
  | _ => false

end Sys2Proof
end

