-- ==== Sys2Proof/Machine/Assembler.lean ====
section
/-! DEFINITION. Host programs as they are written (spec 30_encoding.md rules R103, R104): a line becomes the inputs
it stands for, and the name of a pseudo-operation becomes the host's sequence. -/

namespace Sys2Proof.Machine

/-- The commands that stand alone, by mnemonic (R103). -/
def bareCommands : List (String × Instr) :=
  [("RDATA", .rdata), ("SFOCAL", .sfocal), ("MAV_AVG", .mavAvg), ("MAV_CLEAR", .mavClear), ("MAV_SNAP", .mavSnap),
   ("WIN_OPEN", .winOpen), ("WIN_POLL", .winPoll)] ++
  [("GET_LAST", .getLast), ("GET_COUNT", .getCount), ("GET_STATUS", .getStatus), ("CLR_STATUS", .clrStatus),
   ("IRQ_EN", .irqEn), ("IRQ_DIS", .irqDis), ("GET_TIME", .getTime)]

/-- The address an operand names (R103). -/
def addrOperand (p : Params) : Operand → RegAddr
  | .num n => BitVec.ofInt 5 n
  | .reg r => p.addr r

/-- The command of a line, `none` for an event step's line and for a line of no form of R103. -/
def lineCommand (p : Params) (l : SourceLine) : Option Instr :=
  match l.operands with
  | [] => bareCommands.lookup l.mnemonic
  | [a] =>
    if l.mnemonic == "RREG" then some (.rreg (addrOperand p a))
    else match a with
      | .num n =>
        if l.mnemonic == "MAV_CREATE" then some (.mavCreate (BitVec.ofInt 32 n))
        else if l.mnemonic == "MAV_ADD" then some (.mavAdd (BitVec.ofInt 32 n))
        else none
      | .reg _ => none
  | [a, .num v] => if l.mnemonic == "WREG" then some (.wreg (addrOperand p a) (BitVec.ofInt 8 v)) else none
  | _ => none

/-- The event steps of a line: `EDGE`, `EDGE_SERVICE` and `TICK n` (R103). -/
def lineEvents (l : SourceLine) : Option (List Input) :=
  match l.operands with
  | [] =>
    if l.mnemonic == "EDGE" then some [.edge]
    else if l.mnemonic == "EDGE_SERVICE" then some [.service]
    else none
  | [.num n] => if l.mnemonic == "TICK" then some (List.replicate n.toNat .tick) else none
  | _ => none

/-- The inputs a well-formed line stands for (R103): one command word, or event steps. -/
def assembleLine (p : Params) (l : SourceLine) : Option (List Input) :=
  if l.wf then
    match lineCommand p l with
    | some i => some [.command (encode i)]
    | none => lineEvents l
  else none

/-- A pseudo-operation with its arguments (R104); `none` as a code is `INVALID`. -/
inductive PseudoOp where
  | getMode
  | setMode (m : AcqMode)
  | getRate
  | setRate (c : Option (BitVec 4))
  | getMux
  | setMux (pos neg : Option (BitVec 4))
  | wait (k : Nat)
  | calibrate
  deriving DecidableEq, Repr

/-- The sequence a pseudo-operation starts (R196 to R203). -/
def PseudoOp.start (p : Params) : PseudoOp → Sequence
  | .getMode => .getMode
  | .setMode m => .setMode p m
  | .getRate => .getRate
  | .setRate c => .setRate p c
  | .getMux => .getMux
  | .setMux pos neg => .setMux p pos neg
  | .wait k => .wait k
  | .calibrate => .calibrate

end Sys2Proof.Machine
end

