-- ==== Sys2Proof/Machine/ReferenceDevice.lean ====
section
/-! DEFINITION. The reference device (spec 95_test_vectors.md section 4): "a test fixture, not hardware" (R67). It is
no part of the block and `step` never calls it; the round-trip properties of whole sequences are stated on a
bench, where it supplies the answers of a session. -/

namespace Sys2Proof.Machine

/-- The fixture's state: the registers, the scripted samples still to come, the indices of the exchanges that
fail, and the index of the next exchange. -/
structure RefDevice where
  regs : Vector Byte 32
  samples : List (BitVec 24)
  failing : List Nat
  next : Nat
  deriving DecidableEq, Repr

/-- The fixture's answer to the frame of a command, and its state after it; `none` for a command that exchanges
nothing. A failing exchange changes nothing but the count of exchanges. -/
def RefDevice.answer (d : RefDevice) (i : Instr) : Option (Answer × RefDevice) :=
  let counted := { d with next := d.next + 1 }
  let fails := d.failing.contains d.next
  let reply (b1 b2 b3 b4 : Byte) (after : RefDevice) : Option (Answer × RefDevice) :=
    if fails then some (⟨false, #v[0, 0, 0, 0, 0, 0]⟩, counted)
    else some (⟨true, #v[0xFF, b1, b2, b3, b4, 0x00]⟩, after)
  match i with
  | .rreg addr => reply (0x20 + addr.setWidth 8) d.regs[addr.toFin] 0 0 counted
  | .wreg addr value => reply (0x40 + addr.setWidth 8) 0 0 0 { counted with regs := d.regs.set addr.toNat value addr.isLt }
  | .rdata =>
    let v := d.samples.headD 0
    reply 0x12 (v.extractLsb' 16 8) (v.extractLsb' 8 8) (v.extractLsb' 0 8) { counted with samples := d.samples.tail }
  | .sfocal => reply 0x19 0 0 0 counted
  | _ => none

/-- A session whose answers the fixture supplies. -/
structure Bench where
  session : Session
  device : RefDevice
  deriving DecidableEq, Repr

/-- One command of the host's sequence on the bench: the fixture's answer is laid ready, then the command runs. -/
def Bench.hostTurn (b : Bench) : Host.Outcome Bench Fault Refusal :=
  let ready : Option (Answer × RefDevice) :=
    (b.session.host.command b.session.block.params).bind b.device.answer
  let block := match ready with
    | some (a, _) => { b.session.block with answers := [a] }
    | none => b.session.block
  let device := match ready with
    | some (_, d) => d
    | none => b.device
  match (Session.mk block b.session.host).turn .host with
  | .next x => .next ⟨x, device⟩
  | .fault r => .fault r
  | .refused r => .refused r

/-- `n` commands of the host's sequence on the bench. -/
def Bench.run : Nat → Bench → Host.Outcome Bench Fault Refusal
  | 0, b => .next b
  | n + 1, b =>
    match b.hostTurn with
    | .next c => Bench.run n c
    | .fault r => .fault r
    | .refused r => .refused r

/-- The bench with the next sequence of the host (a sequence starts when the one before it has finished). -/
def Bench.start (b : Bench) (q : Sequence) : Bench := { b with session := { b.session with host := q } }

end Sys2Proof.Machine
end

