-- ==== Sys2Proof/Certificates/Slice0/Obligations.lean ====
section
/-! DEFINITION. The statements of this model, from the numbered rules of the spec. A result is written as the whole
next state, so that what an operation leaves unchanged is part of it. -/

open Sys2Proof Sys2Proof.Machine

/-! ### Encoding -/

/-- R90 to R93, R96: a word decodes to a command exactly when it is the word of that command, so no bit of an
operand is dropped and each word has one meaning. -/
def Obligations.WordDecodesIffEncoded : Prop :=
  ∀ (w : CommandWord) (i : Instr), decode w = .ok i ↔ w = encode i

/-- R92: decoding finds the row of the operation map that matches the word, there is one such row at most, and a
word that a row matches decodes to that row's command. -/
def Obligations.DecodeFollowsOperationMap : Prop :=
  (∀ (w : CommandWord) (r r' : OpRow), r ∈ opcodeTable → r' ∈ opcodeTable →
    w &&& r.mask = r.pattern → w &&& r'.mask = r'.pattern → r = r') ∧
  (∀ (w : CommandWord) (i : Instr), decode w = .ok i →
    ∃ r ∈ opcodeTable, r.mnemonic = i.mnemonic ∧ w &&& r.mask = r.pattern) ∧
  (∀ (w : CommandWord) (r : OpRow), r ∈ opcodeTable → w &&& r.mask = r.pattern →
    ∃ i, decode w = .ok i ∧ i.mnemonic = r.mnemonic)

/-- R100: a word no row matches is answered `IllegalCommand` and does nothing else; the three kinds of words the
rule lists are such words. -/
def Obligations.IllegalWordsOnlyGetAResponse : Prop :=
  (∀ (w : CommandWord) (s : State), (∀ r ∈ opcodeTable, w &&& r.mask ≠ r.pattern) →
    perform (.command w) s = .next { s with responses := s.responses ++ [⟨0x01, 0⟩] }) ∧
  (∀ (op : Byte) (arg : BitVec 32),
    (op.toNat ≤ 0x11 ∨ (0x13 ≤ op.toNat ∧ op.toNat ≤ 0x18) ∨ (0x1A ≤ op.toNat ∧ op.toNat ≤ 0x1F) ∨
      (0x60 ≤ op.toNat ∧ op.toNat ≤ 0x7F) ∨ (0x85 ≤ op.toNat ∧ op.toNat ≤ 0x8F) ∨ 0x99 ≤ op.toNat) →
    ∀ r ∈ opcodeTable, commandWord op arg &&& r.mask ≠ r.pattern) ∧
  (∀ (op : Byte) (arg : BitVec 32), op ≠ 0x80 → op ≠ 0x81 → ¬ (0x40 ≤ op.toNat ∧ op.toNat ≤ 0x5F) → arg ≠ 0 →
    ∀ r ∈ opcodeTable, commandWord op arg &&& r.mask ≠ r.pattern) ∧
  (∀ (op : Byte) (arg : BitVec 32), 0x40 ≤ op.toNat → op.toNat ≤ 0x5F → arg.extractLsb' 8 24 ≠ 0 →
    ∀ r ∈ opcodeTable, commandWord op arg &&& r.mask ≠ r.pattern)

/-- Words of 95_test_vectors.md section 2.0, written out from the operation map. -/
def Obligations.TestVectorWordsDecode : Prop :=
  decode 0x1200000000 = .ok .rdata ∧ decode 0x3F00000000 = .ok (.rreg 0x1F) ∧
  decode 0x5F000000FF = .ok (.wreg 0x1F 0xFF) ∧ decode 0x80FFFFFFFF = .ok (.mavCreate 4294967295) ∧
  decode 0x8180000000 = .ok (.mavAdd (BitVec.ofInt 32 (-2147483648))) ∧ decode 0x9800000000 = .ok .getTime ∧
  decode 0x2300000001 = .error .nonzeroArg ∧ decode 0x4300000100 = .error .nonzeroArgHigh ∧
  decode 0x0600000000 = .error .unlistedOp

/-! ### The step -/

/-- R9, R70: when the next input is a word that decodes to a command, the step is that command's meaning on the
state without that input. -/
def Obligations.StepRunsTheDecodedCommand : Prop :=
  ∀ (s : State) (w : CommandWord) (rest : List Input) (i : Instr),
    s.inputs = .command w :: rest → decode w = .ok i → step s = exec i { s with inputs := rest }

/-- R70: the step performs the event that the schedule names next; with no input left it changes nothing (the
model's choice, log entry 1). -/
def Obligations.StepRunsTheNextEvent : Prop :=
  (∀ (s : State) (rest : List Input), s.inputs = .edge :: rest → step s = edgeArrives { s with inputs := rest }) ∧
  (∀ (s : State) (rest : List Input), s.inputs = .service :: rest → step s = edgeService { s with inputs := rest }) ∧
  (∀ (s : State) (rest : List Input), s.inputs = .tick :: rest → step s = tick { s with inputs := rest }) ∧
  (∀ s : State, s.inputs = [] → step s = .next s)

/-- A word placed for the next step, numbered as the opcode table numbers it, is the very command that step runs. -/
def Obligations.PlacedWordRunsNext : Prop :=
  ∀ (s : State) (nbits w : Nat) (i : Instr),
    decodeTableWord nbits w = some i → step (s.withFetchWord nbits w) = exec i s

/-! ### RegisterCodec -/

/-- R120: the frame `[0x20 + addr, 0, 0]` is exchanged and the third received byte, zero-extended, is the datum; a
failed exchange gives `BusError`; nothing else changes; a nonzero `arg` is illegal. -/
def Obligations.RregReturnsTheThirdByte : Prop :=
  ∀ (addr : RegAddr) (s : State),
    let op : Byte := 0x20 + addr.setWidth 8
    let a := s.deviceAnswer [op, 0x00, 0x00]
    (s.exchangeOk [op, 0x00, 0x00] = true → exec (.rreg addr) s = .next { s with
      answers := s.answers.tail
      trace := s.trace ++ [.xfer [op, 0x00, 0x00] (some [a.bytes[0], a.bytes[1], a.bytes[2]])]
      responses := s.responses ++ [⟨0x00, a.bytes[2].setWidth 64⟩] }) ∧
    (s.exchangeOk [op, 0x00, 0x00] = false → exec (.rreg addr) s = .next { s with
      answers := s.answers.tail
      trace := s.trace ++ [.xfer [op, 0x00, 0x00] none]
      responses := s.responses ++ [⟨0x05, 0⟩] }) ∧
    decode (commandWord op 0) = .ok (.rreg addr) ∧
    ∀ arg : BitVec 32, arg ≠ 0 → decode (commandWord op arg) = .error .nonzeroArg

/-- R121: the frame `[0x40 + addr, value]` between `StartLow` and `StartHigh`, in that order, whatever the exchange
answers; `START` is high at the end; `BusError` exactly when the exchange fails. -/
def Obligations.WregBracketsTheWriteFrame : Prop :=
  ∀ (addr : RegAddr) (value : Byte) (s : State),
    let op : Byte := 0x40 + addr.setWidth 8
    let low : State := { s with start := false, trace := s.trace ++ [.startLow] }
    let a := low.deviceAnswer [op, value]
    (low.exchangeOk [op, value] = true → exec (.wreg addr value) s = .next { s with
      start := true
      answers := s.answers.tail
      trace := s.trace ++ [.startLow, .xfer [op, value] (some [a.bytes[0], a.bytes[1]]), .startHigh]
      responses := s.responses ++ [⟨0x00, 0⟩] }) ∧
    (low.exchangeOk [op, value] = false → exec (.wreg addr value) s = .next { s with
      start := true
      answers := s.answers.tail
      trace := s.trace ++ [.startLow, .xfer [op, value] none, .startHigh]
      responses := s.responses ++ [⟨0x05, 0⟩] }) ∧
    decode (commandWord op (value.setWidth 32)) = .ok (.wreg addr value) ∧
    ∀ arg : BitVec 32, arg.extractLsb' 8 24 ≠ 0 → decode (commandWord op arg) = .error .nonzeroArgHigh

/-- R122, R124: the frame led by `0x12` is exchanged and the sample, assembled as D0 says from offsets 2 to 4, is
the sign-extended datum; `LAST_SAMPLE`, `LAST_VALID` and the buffer do not change. -/
def Obligations.RdataReturnsTheSample : Prop :=
  ∀ s : State,
    let tx : List Byte := [0x12, 0x00, 0x00, 0x00, 0x00, 0x00]
    let a := s.deviceAnswer tx
    let hi : Byte := if a.bytes[2].getLsbD 7 then 0xFF else 0x00
    let v : Sample := hi ++ a.bytes[2] ++ a.bytes[3] ++ a.bytes[4]
    (s.exchangeOk tx = true → exec .rdata s = .next { s with
      answers := s.answers.tail
      trace := s.trace ++
        [.xfer tx (some [a.bytes[0], a.bytes[1], a.bytes[2], a.bytes[3], a.bytes[4], a.bytes[5]])]
      responses := s.responses ++ [⟨0x00, v.signExtend 64⟩] }) ∧
    (s.exchangeOk tx = false → exec .rdata s = .next { s with
      answers := s.answers.tail
      trace := s.trace ++ [.xfer tx none]
      responses := s.responses ++ [⟨0x05, 0⟩] }) ∧
    ∀ arg : BitVec 32, arg ≠ 0 → decode (commandWord 0x12 arg) = .error .nonzeroArg

/-- R123: the frame `[0x19, 0x00]` is exchanged and nothing but the trace and the response changes. -/
def Obligations.SfocalSendsTheCalibrationFrame : Prop :=
  ∀ s : State,
    let tx : List Byte := [0x19, 0x00]
    let a := s.deviceAnswer tx
    (s.exchangeOk tx = true → exec .sfocal s = .next { s with
      answers := s.answers.tail
      trace := s.trace ++ [.xfer tx (some [a.bytes[0], a.bytes[1]])]
      responses := s.responses ++ [⟨0x00, 0⟩] }) ∧
    (s.exchangeOk tx = false → exec .sfocal s = .next { s with
      answers := s.answers.tail
      trace := s.trace ++ [.xfer tx none]
      responses := s.responses ++ [⟨0x05, 0⟩] }) ∧
    ∀ arg : BitVec 32, arg ≠ 0 → decode (commandWord 0x19 arg) = .error .nonzeroArg

/-- R65, R98: the sample is the big-endian two's-complement number of offsets 2 to 4, so it lies in the 24-bit
range; the opcode bytes are the prefixes `001` and `010` before the address. -/
def Obligations.SampleIsTheBigEndianNumber : Prop :=
  (∀ rx : Vector Byte 6,
    (sampleOf rx).toInt = rx[2].toInt * 65536 + rx[3].toNat * 256 + rx[4].toNat ∧
    -8388608 ≤ (sampleOf rx).toInt ∧ (sampleOf rx).toInt ≤ 8388607) ∧
  ∀ (p : Params) (addr : RegAddr),
    readOpcode p addr = (0b001 : BitVec 3) ++ addr ∧ writeOpcode p addr = (0b010 : BitVec 3) ++ addr

/-- R97 (U7): the inbound bytes at offsets 0, 1 and 5 enter no result. Two answers that agree on the outcome and on
offsets 2 to 4 lead to states that differ at most in the received bytes that the trace records for the exchange of
this very step: the older trace, what the step sent, the start-pin events and every register are the same. An answer
that no exchange used up is still to come, and then the traces are equal. -/
def Obligations.UnusedInboundBytesDoNotMatter : Prop :=
  ∀ (e : Input) (s t : State) (a b : Answer) (rest : List Answer),
    a.ok = b.ok → a.bytes[2] = b.bytes[2] → a.bytes[3] = b.bytes[3] → a.bytes[4] = b.bytes[4] →
    perform e { s with answers := a :: rest } = .next t →
    ∃ (l l' : List BusEvent) (as : List Answer), t.trace = s.trace ++ l ∧
      l'.map withoutReceived = l.map withoutReceived ∧
      ((t.answers = rest ∧ as = rest) ∨ (t.answers = a :: rest ∧ as = b :: rest ∧ l' = l)) ∧
      perform e { s with answers := b :: rest } = .next { t with trace := s.trace ++ l', answers := as }

/-! ### MovingAverageBuffer -/

/-- R140: a capacity of 0 and one above 16384 are faults that change nothing else; any other is installed as an
empty buffer, the entries of the storage not written. -/
def Obligations.MavCreateByCapacity : Prop :=
  ∀ (cap : BitVec 32) (s : State),
    (cap.toNat = 0 → exec (.mavCreate cap) s = .next { s with responses := s.responses ++ [⟨0x02, 0⟩] }) ∧
    (16384 < cap.toNat → exec (.mavCreate cap) s = .next { s with responses := s.responses ++ [⟨0x03, 0⟩] }) ∧
    (1 ≤ cap.toNat → cap.toNat ≤ 16384 →
      ∃ c : Capacity, c.toNat = cap.toNat ∧ exec (.mavCreate cap) s = .next { s with
        cap := c, head := 0, count := 0, sum := 0, bufValid := true, responses := s.responses ++ [⟨0x00, 0⟩] })

/-- R141: what `MavAdd` writes. The entry stored is the one at `HEAD` and no other index of the storage changes. -/
def Obligations.MavAddWritesTheEntryAtHead : Prop :=
  ∀ (v : Sample) (s : State),
    (s.count ≠ s.cap →
      ∃ m : Memory, Memory.read m s.head.toNat = some v ∧
        (∀ j, j ≠ s.head.toNat → Memory.read m j = Memory.read s.buf j) ∧
        s.mavAdd v = .next { s with
          count := s.count + 1, buf := m, sum := s.sum + v.signExtend 48
          head := BitVec.ofNat 14 ((s.head.toNat + 1) % s.cap.toNat) }) ∧
    (∀ old : Sample, s.count = s.cap → Memory.read s.buf s.head.toNat = some old →
      ∃ m : Memory, Memory.read m s.head.toNat = some v ∧
        (∀ j, j ≠ s.head.toNat → Memory.read m j = Memory.read s.buf j) ∧
        s.mavAdd v = .next { s with
          buf := m, sum := s.sum - old.signExtend 48 + v.signExtend 48
          head := BitVec.ofNat 14 ((s.head.toNat + 1) % s.cap.toNat) })

/-- R142: with no buffer, `NoBuffer` and nothing else; with one, the push of R141 and the response `(OK, 0)`. -/
def Obligations.MavAddCommandPushes : Prop :=
  ∀ (v : Sample) (s : State),
    (s.bufValid = false → exec (.mavAdd v) s = .next { s with responses := s.responses ++ [⟨0x04, 0⟩] }) ∧
    (s.bufValid = true → s.count ≠ s.cap →
      ∃ m : Memory, Memory.read m s.head.toNat = some v ∧
        (∀ j, j ≠ s.head.toNat → Memory.read m j = Memory.read s.buf j) ∧
        exec (.mavAdd v) s = .next { s with
          count := s.count + 1, buf := m, sum := s.sum + v.signExtend 48
          head := BitVec.ofNat 14 ((s.head.toNat + 1) % s.cap.toNat)
          responses := s.responses ++ [⟨0x00, 0⟩] }) ∧
    (∀ old : Sample, s.bufValid = true → s.count = s.cap → Memory.read s.buf s.head.toNat = some old →
      ∃ m : Memory, Memory.read m s.head.toNat = some v ∧
        (∀ j, j ≠ s.head.toNat → Memory.read m j = Memory.read s.buf j) ∧
        exec (.mavAdd v) s = .next { s with
          buf := m, sum := s.sum - old.signExtend 48 + v.signExtend 48
          head := BitVec.ofNat 14 ((s.head.toNat + 1) % s.cap.toNat)
          responses := s.responses ++ [⟨0x00, 0⟩] })

/-- The model's choice (log entry 5; U20 allows it): the eviction of an entry that holds no value stops the machine,
and only a state that breaks the invariants can come to it. -/
def Obligations.EvictingAnUnfilledEntryStops : Prop :=
  ∀ (v : Sample) (s : State),
    (s.bufValid = true → s.count = s.cap → Memory.read s.buf s.head.toNat = none →
      exec (.mavAdd v) s = .fault .unfilledEntryRead) ∧
    (exec (.mavAdd v) s = .fault .unfilledEntryRead → ¬ BlockInv s)

/-- R143: the mean is the integer quotient of `SUM` by `COUNT` rounded toward zero; the empty buffer answers 0; in
every state that keeps the invariants the quotient is a 32-bit number, so the datum is the quotient itself. -/
def Obligations.MavAvgReturnsTheQuotient : Prop :=
  ∀ s : State,
    (s.bufValid = false → exec .mavAvg s = .next { s with responses := s.responses ++ [⟨0x04, 0⟩] }) ∧
    (s.bufValid = true → s.count = 0 → exec .mavAvg s = .next { s with responses := s.responses ++ [⟨0x00, 0⟩] }) ∧
    (s.bufValid = true → s.count ≠ 0 → exec .mavAvg s = .next { s with
      responses := s.responses ++
        [⟨0x00, (BitVec.ofInt 32 (s.sum.toInt.tdiv s.count.toNat)).signExtend 64⟩] }) ∧
    (BlockInv s → s.bufValid = true → s.count ≠ 0 →
      -2147483648 ≤ s.sum.toInt.tdiv s.count.toNat ∧ s.sum.toInt.tdiv s.count.toNat ≤ 2147483647 ∧
      ((BitVec.ofInt 32 (s.sum.toInt.tdiv s.count.toNat)).signExtend 64).toInt = s.sum.toInt.tdiv s.count.toNat)

/-- R144: `HEAD`, `COUNT` and `SUM` become 0; the capacity and the entries stay. -/
def Obligations.MavClearEmptiesTheBuffer : Prop :=
  ∀ s : State,
    (s.bufValid = false → exec .mavClear s = .next { s with responses := s.responses ++ [⟨0x04, 0⟩] }) ∧
    (s.bufValid = true → exec .mavClear s = .next { s with
      head := 0, count := 0, sum := 0, responses := s.responses ++ [⟨0x00, 0⟩] })

/-- R145: one response carries `COUNT` in bits 63:48 and `SUM` in bits 47:0; nothing else changes. -/
def Obligations.MavSnapReturnsCountAndSum : Prop :=
  ∀ s : State,
    (s.bufValid = false → exec .mavSnap s = .next { s with responses := s.responses ++ [⟨0x04, 0⟩] }) ∧
    (s.bufValid = true → ∃ d : Data, d.extractLsb' 48 16 = s.count.setWidth 16 ∧ d.extractLsb' 0 48 = s.sum ∧
      exec .mavSnap s = .next { s with responses := s.responses ++ [⟨0x00, d⟩] })

/-- R141: in every state that keeps the invariants `MavAdd` is the push onto a queue that keeps the most recent
`CAP` values, and `SUM` is the exact sum of what it keeps. -/
def Obligations.MavAddKeepsTheMostRecent : Prop :=
  ∀ (v : Sample) (s : State), BlockInv s → s.bufValid = true →
    ∃ t, s.mavAdd v = .next t ∧ t.recent = lastN s.cap.toNat (s.recent ++ [v]) ∧
      t.sum.toInt = sampleSum t.recent

/-- E6 and R141: from any state, a `MAV_CREATE` that succeeds and any number of `MAV_ADD` leave exactly the last
`CAP` of the pushed values in the buffer, oldest first, with their exact sum. -/
def Obligations.PushesAfterCreateKeepTheLastValues : Prop :=
  ∀ (s : State) (cap : BitVec 32) (vs : List Sample), 1 ≤ cap.toNat → cap.toNat ≤ 16384 →
    ∃ t, Sys2Proof.core.run (vs.length + 1)
        { s with inputs := (Instr.mavCreate cap :: vs.map Instr.mavAdd).map fun i => .command (encode i) } = .next t ∧
      t.recent = lastN cap.toNat vs ∧ t.count.toNat = min vs.length cap.toNat ∧ t.cap.toNat = cap.toNat ∧
      t.sum.toInt = sampleSum (lastN cap.toNat vs)

/-- R28: in every state that keeps the invariants `|SUM|` is at most `COUNT · 2^31`, so at most `2^45`, and no push
wraps it. -/
def Obligations.SumNeverWraps : Prop :=
  ∀ s : State, BlockInv s →
    s.sum.toInt ≤ s.count.toNat * 2 ^ 31 ∧ -(s.count.toNat * 2 ^ 31 : Int) ≤ s.sum.toInt ∧
    s.count.toNat * 2 ^ 31 ≤ 2 ^ 45

/-! ### Acquisition commands -/

/-- R163: the three writes of `WIN_OPEN` in one step. -/
def Obligations.WinOpenStartsTheWindow : Prop :=
  ∀ s : State, exec .winOpen s = .next { s with
    edgeCount := 0, windowStart := s.time, winArmed := true, responses := s.responses ++ [⟨0x00, 0⟩] }

/-- R31, R164: `WIN_POLL` answers 1 inside the window, whose length is `WINDOW_TICKS` of the configuration record (1000
in R5), and otherwise closes it and answers 0; once the window is closed, no schedule without a `WIN_OPEN` changes
`EDGE_COUNT` or opens it again. -/
def Obligations.WinPollReportsAndFreezes : Prop :=
  (∀ s : State, s.winArmed = true → s.time - s.windowStart < s.params.windowTicks →
    exec .winPoll s = .next { s with responses := s.responses ++ [⟨0x00, 1⟩] }) ∧
  (∀ s : State, (s.winArmed = false ∨ ¬ s.time - s.windowStart < s.params.windowTicks) →
    exec .winPoll s = .next { s with winArmed := false, responses := s.responses ++ [⟨0x00, 0⟩] }) ∧
  (∀ (k : Nat) (s t : State), s.winArmed = false →
    (∀ w, Input.command w ∈ s.inputs → decode w ≠ .ok .winOpen) → Sys2Proof.core.run k s = .next t →
    t.edgeCount = s.edgeCount ∧ t.windowStart = s.windowStart ∧ t.winArmed = false)

/-- R167, R168, R173: the read-outs of `LAST_SAMPLE` (sign-extended), `EDGE_COUNT` and `TIME` (zero-extended) change
nothing. -/
def Obligations.ReadoutsReturnTheRegister : Prop :=
  ∀ s : State,
    exec .getLast s = .next { s with responses := s.responses ++ [⟨0x00, s.lastSample.signExtend 64⟩] } ∧
    exec .getCount s = .next { s with responses := s.responses ++ [⟨0x00, s.edgeCount.setWidth 64⟩] } ∧
    exec .getTime s = .next { s with responses := s.responses ++ [⟨0x00, s.time.setWidth 64⟩] }

/-- R34, R169: the status view bit by bit; reading it changes nothing. -/
def Obligations.GetStatusReturnsTheView : Prop :=
  ∀ s : State, ∃ d : Data, exec .getStatus s = .next { s with responses := s.responses ++ [⟨0x00, d⟩] } ∧
    d.getLsbD 0 = s.bufValid ∧ d.getLsbD 1 = s.winArmed ∧ d.getLsbD 2 = s.edgeEn ∧ d.getLsbD 3 = s.edgePending ∧
    d.getLsbD 4 = s.start ∧ d.getLsbD 5 = s.edgeOverrun ∧ d.getLsbD 6 = s.busErr ∧ d.getLsbD 7 = s.lastValid ∧
    d.extractLsb' 8 8 = 0 ∧ d.extractLsb' 16 15 = (if s.bufValid then s.cap else 0) ∧ d.extractLsb' 31 33 = 0

/-- R170: the two sticky bits become 0 and no other bit changes. -/
def Obligations.ClrStatusClearsTheStickyBits : Prop :=
  ∀ s : State, exec .clrStatus s = .next { s with
    edgeOverrun := false, busErr := false, responses := s.responses ++ [⟨0x00, 0⟩] }

/-- R171: `EDGE_EN` becomes 1 and nothing else changes. -/
def Obligations.IrqEnEnables : Prop :=
  ∀ s : State, exec .irqEn s = .next { s with edgeEn := true, responses := s.responses ++ [⟨0x00, 0⟩] }

/-- R172: `IRQ_DIS` clears the enable and discards a pending edge; from then on, as long as the schedule holds no `IRQ_EN`
followed by an edge (an edge-free part after a part without `IRQ_EN`), no edge is pending, so no service is enabled
(that a step which is not enabled is refused is the model's choice, log entry 8) and no sample is latched. Without an
`IRQ_EN` the interrupt stays disabled; without an edge nothing becomes pending, whatever `EDGE_EN` is. -/
def Obligations.IrqDisKeepsServicesOut : Prop :=
  (∀ s : State, exec .irqDis s = .next { s with
    edgeEn := false, edgePending := false, responses := s.responses ++ [⟨0x00, 0⟩] }) ∧
  (∀ (k : Nat) (s t : State), s.edgeEn = false → s.edgePending = false →
    (∀ w, Input.command w ∈ s.inputs → decode w ≠ .ok .irqEn) → Sys2Proof.core.run k s = .next t →
    t.edgeEn = false ∧ t.edgePending = false ∧ t.lastSample = s.lastSample ∧ t.lastValid = s.lastValid ∧
      edgeService t = .refused .serviceNotEnabled) ∧
  (∀ (k : Nat) (s t : State) (l m : List Input), s.edgeEn = false → s.edgePending = false → s.inputs = l ++ m →
    (∀ w, Input.command w ∈ l → decode w ≠ .ok .irqEn) → Input.edge ∉ m → Sys2Proof.core.run k s = .next t →
    t.edgePending = false ∧ t.lastSample = s.lastSample ∧ t.lastValid = s.lastValid ∧
      edgeService t = .refused .serviceNotEnabled) ∧
  (∀ (k : Nat) (s t : State), s.edgePending = false → Input.edge ∉ s.inputs → Sys2Proof.core.run k s = .next t →
    t.edgePending = false ∧ t.lastSample = s.lastSample ∧ t.lastValid = s.lastValid ∧
      edgeService t = .refused .serviceNotEnabled)

/-! ### Event steps -/

/-- R160: an edge is ignored while disabled, latched when none is pending, merged and flagged when one is. -/
def Obligations.EdgeIsLatchedMergedOrIgnored : Prop :=
  ∀ s : State,
    (s.edgeEn = false → edgeArrives s = .next s) ∧
    (s.edgeEn = true → s.edgePending = false → edgeArrives s = .next { s with edgePending := true }) ∧
    (s.edgeEn = true → s.edgePending = true → edgeArrives s = .next { s with edgeOverrun := true })

/-- R161: the service in all its cases. It is enabled only while an edge is pending (that a step which is not
enabled is refused is the model's choice, log entry 8); inside the window it counts and reads nothing; outside it closes
the window and reads, and a sample that is read is latched and pushed if there is a buffer (`MavAdd`, R141). -/
def Obligations.EdgeServiceByWindowAndBus : Prop :=
  ∀ s : State,
    let inside := s.winArmed = true ∧ s.time - s.windowStart < s.params.windowTicks
    let tx : List Byte := [0x12, 0x00, 0x00, 0x00, 0x00, 0x00]
    let a := s.deviceAnswer tx
    let hi : Byte := if a.bytes[2].getLsbD 7 then 0xFF else 0x00
    let v : Sample := hi ++ a.bytes[2] ++ a.bytes[3] ++ a.bytes[4]
    let sampled : State := { s with
      edgePending := false, winArmed := false, lastSample := v, lastValid := true
      answers := s.answers.tail
      trace := s.trace ++
        [.xfer tx (some [a.bytes[0], a.bytes[1], a.bytes[2], a.bytes[3], a.bytes[4], a.bytes[5]])] }
    (s.edgePending = false → edgeService s = .refused .serviceNotEnabled) ∧
    (s.edgePending = true → inside → edgeService s = .next { s with
      edgePending := false, edgeCount := BitVec.ofNat 32 (min (s.edgeCount.toNat + 1) 4294967295) }) ∧
    (s.edgePending = true → ¬ inside → s.exchangeOk tx = false → edgeService s = .next { s with
      edgePending := false, winArmed := false, busErr := true
      answers := s.answers.tail
      trace := s.trace ++ [.xfer tx none] }) ∧
    (s.edgePending = true → ¬ inside → s.exchangeOk tx = true → s.bufValid = false →
      edgeService s = .next sampled) ∧
    (s.edgePending = true → ¬ inside → s.exchangeOk tx = true → s.bufValid = true →
      edgeService s = sampled.mavAdd v)

/-- R162: a tick adds 1 to `TIME` modulo 2^32 and changes nothing else. -/
def Obligations.TickAdvancesOnlyTime : Prop :=
  ∀ s : State, ∃ t : Ticks, t.toNat = (s.time.toNat + 1) % 2 ^ 32 ∧ tick s = .next { s with time := t }

/-- R228, R146: what the interrupt context may change. It never creates, replaces or clears the buffer, opens a
window, moves the start pin, enables or disables edges, clears a sticky bit or responds, and the only frame it
sends is the raw-sample frame. -/
def Obligations.ServiceStaysWithinItsRights : Prop :=
  ∀ s t : State, edgeService s = .next t →
    t.edgePending = false ∧ t.bufValid = s.bufValid ∧ t.cap = s.cap ∧ t.start = s.start ∧ t.time = s.time ∧
    t.windowStart = s.windowStart ∧ (t.winArmed = true → s.winArmed = true) ∧ t.edgeEn = s.edgeEn ∧
    t.edgeOverrun = s.edgeOverrun ∧ (s.busErr = true → t.busErr = true) ∧
    (s.lastValid = true → t.lastValid = true) ∧ (t.count = s.count ∨ t.count = s.count + 1) ∧
    (s.bufValid = false → t.count = s.count ∧ t.head = s.head ∧ t.sum = s.sum ∧ t.buf = s.buf) ∧
    t.responses = s.responses ∧
    (t.trace = s.trace ∨ ∃ rx, t.trace = s.trace ++ [.xfer [0x12, 0x00, 0x00, 0x00, 0x00, 0x00] rx])

/-! ### Rules about every operation -/

/-- R94: a host command ends with exactly one response, whose datum is 0 unless its status is OK and whose status
is none of the reserved codes; an event step has no response. -/
def Obligations.EveryCommandRespondsOnce : Prop :=
  (∀ (w : CommandWord) (s t : State), perform (.command w) s = .next t →
    ∃ r, t.responses = s.responses ++ [r] ∧ (r.st ≠ 0 → r.data = 0) ∧ r.st.toNat ≤ 5) ∧
  (∀ (e : Input) (s t : State), (∀ w, e ≠ .command w) → perform e s = .next t → t.responses = s.responses)

/-- R221, R222: which command responds which fault, and exactly when: the cause of `BusError` is that the exchange of
the command's own frame fails, for `WREG` in the state after `StartLow`, and that needs `BUS_CAN_FAIL`. -/
def Obligations.FaultsHaveTheirCauses : Prop :=
  ∀ (w : CommandWord) (s t : State) (r : Response),
    perform (.command w) s = .next t → t.responses = s.responses ++ [r] →
    (r.st = 0x01 ↔ ∀ i, decode w ≠ .ok i) ∧
    (r.st = 0x02 ↔ ∃ cap, decode w = .ok (.mavCreate cap) ∧ cap.toNat = 0) ∧
    (r.st = 0x03 ↔ ∃ cap, decode w = .ok (.mavCreate cap) ∧ 16384 < cap.toNat) ∧
    (r.st = 0x04 ↔ s.bufValid = false ∧
      ((∃ v, decode w = .ok (.mavAdd v)) ∨ decode w = .ok .mavAvg ∨ decode w = .ok .mavClear ∨
        decode w = .ok .mavSnap)) ∧
    (r.st = 0x05 ↔
      (∃ a, decode w = .ok (.rreg a) ∧ s.exchangeOk [0x20 + a.setWidth 8, 0x00, 0x00] = false) ∨
      (∃ a v, decode w = .ok (.wreg a v) ∧
        ({ s with start := false, trace := s.trace ++ [.startLow] } : State).exchangeOk [0x40 + a.setWidth 8, v] = false) ∨
      (decode w = .ok .rdata ∧ s.exchangeOk [0x12, 0x00, 0x00, 0x00, 0x00, 0x00] = false) ∨
      (decode w = .ok .sfocal ∧ s.exchangeOk [0x19, 0x00] = false)) ∧
    (r.st = 0x05 → s.params.busCanFail = true)

/-- R21, R32: no step but an edge service writes `LAST_SAMPLE` or `LAST_VALID`. -/
def Obligations.OnlyTheServiceWritesLastSample : Prop :=
  ∀ (e : Input) (s t : State), perform e s = .next t → e ≠ .service →
    t.lastSample = s.lastSample ∧ t.lastValid = s.lastValid

/-- R22, R23: `EDGE_COUNT` is written by `WIN_OPEN` and the service only, `WINDOW_START` by `WIN_OPEN` only. -/
def Obligations.WindowRegistersHaveTheirWriters : Prop :=
  ∀ (e : Input) (s t : State), perform e s = .next t → (∀ w, e = .command w → decode w ≠ .ok .winOpen) →
    t.windowStart = s.windowStart ∧ (e ≠ .service → t.edgeCount = s.edgeCount) ∧
    (t.winArmed = true → s.winArmed = true)

/-- R25, R26: `CAP` and `BUF_VALID` are written by `MAV_CREATE` only, and nothing ever clears `BUF_VALID`. -/
def Obligations.OnlyMavCreateInstallsABuffer : Prop :=
  ∀ (e : Input) (s t : State), perform e s = .next t →
    (s.bufValid = true → t.bufValid = true) ∧
    ((∀ w cap, e = .command w → decode w ≠ .ok (.mavCreate cap)) → t.bufValid = s.bufValid ∧ t.cap = s.cap)

/-- R30: no step but a tick changes `TIME`, and no step at all changes the parameters of the block (R5). -/
def Obligations.OnlyTicksChangeTime : Prop :=
  ∀ (e : Input) (s t : State), perform e s = .next t →
    t.params = s.params ∧ (e ≠ .tick → t.time = s.time)

/-- R33: the trace only grows, by three events at most, and a start-pin event comes from `WREG` only. -/
def Obligations.TraceOnlyGrows : Prop :=
  ∀ (e : Input) (s t : State), perform e s = .next t →
    ∃ l, t.trace = s.trace ++ l ∧ l.length ≤ 3 ∧
      ((∀ w a v, e = .command w → decode w ≠ .ok (.wreg a v)) →
        BusEvent.startLow ∉ l ∧ BusEvent.startHigh ∉ l ∧ l.length ≤ 1)

/-- R70: under a fair schedule every window ends: without another `WIN_OPEN` there comes a state that is outside
the window. Fairness is read as log entry 9 says: a tick, and a service unless the edge is discarded, each
eventually happen. -/
def Obligations.FairTicksEndEveryWindow : Prop :=
  ∀ (e : Execution) (n : Nat), e.Fair →
    (∀ m w, n ≤ m → e.event m = .command w → decode w ≠ .ok .winOpen) →
    ∃ m, n ≤ m ∧ (e.state m).inWindow = false

/-! ### Reset and invariants -/

/-- R260: the state after reset, with the parameters and the value of `TIME` that the spec leaves open; the status
view reads `0x00000010`, an edge is ignored and a service is not enabled (that a step which is not enabled
is refused is the model's choice, log entry 8). -/
def Obligations.ResetIsQuiet : Prop :=
  ∀ (p : Params) (now : Ticks),
    let s := State.resetWith p now
    s.lastSample = 0 ∧ s.lastValid = false ∧ s.edgeCount = 0 ∧ s.windowStart = 0 ∧ s.winArmed = false ∧
    s.bufValid = false ∧ s.cap = 0 ∧ s.head = 0 ∧ s.count = 0 ∧ s.sum = 0 ∧ s.edgeEn = false ∧
    s.edgePending = false ∧ s.edgeOverrun = false ∧ s.busErr = false ∧ s.start = true ∧ s.trace = [] ∧
    s.status = 0x00000010 ∧ s.time = now ∧ edgeArrives s = .next s ∧ edgeService s = .refused .serviceNotEnabled

/-- R40: the invariants hold after reset, whatever the open values are. -/
def Obligations.ResetKeepsTheInvariants : Prop :=
  (∀ (p : Params) (now : Ticks), BlockInv (State.resetWith p now)) ∧ BlockInv State.reset

/-- R40, R28: every step keeps the invariants, from every state that has them. -/
def Obligations.EveryStepKeepsTheInvariants : Prop :=
  ∀ s t : State, BlockInv s → step s = .next t → BlockInv t

/-- R220: the block does not halt or lock: in every state that keeps the invariants, a step whose input is enabled
gives a next state. -/
def Obligations.InvariantStatesNeverStop : Prop :=
  ∀ s : State, BlockInv s → s.nextEnabled → ∃ t, step s = .next t

/-! ### Field functions and host sequences -/

/-- R195: the round trips of the field functions, for all bytes and all code sets. -/
def Obligations.FieldFunctionsRoundTrip : Prop :=
  ∀ (p : Params) (b : Byte),
    (∀ m : BitVec 2, modeGet (modeSet b m) = m ∧ modeSet b m &&& 0x9F#8 = b &&& 0x9F#8) ∧
    (∀ c ∈ p.drValid, rateGet p (rateSet b c) = some c ∧ rateSet b c &&& 0x87#8 = b &&& 0x87#8) ∧
    (∀ pos ∈ p.muxValid, ∀ neg ∈ p.muxValid, muxUnpack p (muxPack pos neg) = (some pos, some neg))

/-- R192, R194: a code outside the valid set decodes to the sentinel, each nibble of a multiplexer byte on its own. -/
def Obligations.UnusedCodesDecodeToInvalid : Prop :=
  ∀ (p : Params) (b : Byte),
    (b.extractLsb' 3 4 ∉ p.drValid → rateGet p b = none) ∧
    (b.extractLsb' 4 4 ∉ p.muxValid → (muxUnpack p b).1 = none) ∧
    (b.extractLsb' 0 4 ∉ p.muxValid → (muxUnpack p b).2 = none) ∧
    (b.extractLsb' 4 4 ∈ p.muxValid → (muxUnpack p b).1 = some (b.extractLsb' 4 4)) ∧
    (b.extractLsb' 0 4 ∈ p.muxValid → (muxUnpack p b).2 = some (b.extractLsb' 0 4)) ∧
    codeByte p none = 0xFF ∧ ∀ c : BitVec 4, codeByte p (some c) ≠ 0xFF

/-- R197, R199, R201: what the setters send and leave, when the exchanges succeed. `SET_MODE` and `SET_RATE` write
back the byte the device answered with only the field changed; `SET_MUX` is one write. -/
def Obligations.SettersSendReadModifyWrite : Prop :=
  ∀ (s : State) (a b : Answer) (rest : List Answer), a.ok = true → b.ok = true →
    let written (addr : RegAddr) (v : Byte) (reply : Answer) : List BusEvent :=
      [.startLow, .xfer [0x40 + addr.setWidth 8, v] (some [reply.bytes[0], reply.bytes[1]]), .startHigh]
    let read (addr : RegAddr) : List BusEvent :=
      [.xfer [0x20 + addr.setWidth 8, 0x00, 0x00] (some [a.bytes[0], a.bytes[1], a.bytes[2]])]
    let after (l : List BusEvent) (rs : List Response) : State := { s with
      start := true, answers := rest, trace := s.trace ++ l, responses := s.responses ++ rs }
    let replies : List Response := [⟨0x00, a.bytes[2].setWidth 64⟩, ⟨0x00, 0⟩]
    (∀ m : AcqMode, s.answers = a :: b :: rest →
      (Session.mk s (.setMode s.params m)).run [.host, .host] = .next
        ⟨after (read s.params.addrMode1 ++
            written s.params.addrMode1 ((a.bytes[2] &&& 0x9F#8) ||| (((modeCode s.params m).setWidth 8 : Byte) <<< 5)) b) replies,
          .finished .done⟩) ∧
    (∀ c ∈ s.params.drValid, s.answers = a :: b :: rest →
      (Session.mk s (.setRate s.params (some c))).run [.host, .host] = .next
        ⟨after (read s.params.addrMode0 ++
            written s.params.addrMode0 ((a.bytes[2] &&& 0x87#8) ||| ((c.setWidth 8 : Byte) <<< 3)) b) replies,
          .finished .done⟩) ∧
    (∀ pos ∈ s.params.muxValid, ∀ neg ∈ s.params.muxValid, s.answers = a :: rest →
      (Session.mk s (.setMux s.params (some pos) (some neg))).run [.host] = .next
        ⟨after (written s.params.addrInpmux (((pos.setWidth 8 : Byte) <<< 4) ||| (neg.setWidth 8 : Byte)) a) [⟨0x00, 0⟩],
          .finished .done⟩)

/-- 44_config_accessors.md section 2 (R197, R199, R201): a setter whose exchange fails ends at once with `BusError`. After
a failed read no write is issued, whatever number of turns the host still gets, and the trace holds the failed
exchange and no start-pin event. After a failed write `START` is high. -/
def Obligations.FailedSetterIssuesNothingMore : Prop :=
  ∀ (s : State) (a : Answer) (rest : List Answer) (n : Nat),
    a.ok = false → s.params.busCanFail = true → s.answers = a :: rest →
    let afterRead (addr : RegAddr) : Session := ⟨{ s with
      answers := rest, trace := s.trace ++ [.xfer [0x20 + addr.setWidth 8, 0x00, 0x00] none]
      responses := s.responses ++ [⟨0x05, 0⟩] }, .finished (.failed 0x05)⟩
    let afterWrite (addr : RegAddr) (v : Byte) : Session := ⟨{ s with
      start := true, answers := rest
      trace := s.trace ++ [.startLow, .xfer [0x40 + addr.setWidth 8, v] none, .startHigh]
      responses := s.responses ++ [⟨0x05, 0⟩] }, .finished (.failed 0x05)⟩
    (∀ m : AcqMode, (Session.mk s (.setMode s.params m)).run (List.replicate (n + 1) .host) =
      .next (afterRead s.params.addrMode1)) ∧
    (∀ c ∈ s.params.drValid, (Session.mk s (.setRate s.params (some c))).run (List.replicate (n + 1) .host) =
      .next (afterRead s.params.addrMode0)) ∧
    (∀ v : Byte, (Session.mk s (.setModeWrite v)).run (List.replicate (n + 1) .host) =
        .next (afterWrite s.params.addrMode1 v) ∧
      (Session.mk s (.setRateWrite v)).run (List.replicate (n + 1) .host) =
        .next (afterWrite s.params.addrMode0 v)) ∧
    (∀ pos ∈ s.params.muxValid, ∀ neg ∈ s.params.muxValid,
      (Session.mk s (.setMux s.params (some pos) (some neg))).run (List.replicate (n + 1) .host) =
        .next (afterWrite s.params.addrInpmux (((pos.setWidth 8 : Byte) <<< 4) ||| (neg.setWidth 8 : Byte))))

/-- R196, R198, R200: each getter is one register read, and its result is the field of the byte the device answers;
a failed exchange ends it with `BusError`. -/
def Obligations.GettersDecodeTheAnswer : Prop :=
  ∀ (s : State) (a : Answer) (rest : List Answer), s.answers = a :: rest →
    let after (addr : RegAddr) : State := { s with
      answers := rest
      trace := s.trace ++ [.xfer [0x20 + addr.setWidth 8, 0x00, 0x00] (some [a.bytes[0], a.bytes[1], a.bytes[2]])]
      responses := s.responses ++ [⟨0x00, a.bytes[2].setWidth 64⟩] }
    let code (valid : List (BitVec 4)) (c : BitVec 4) : Option (BitVec 4) := if c ∈ valid then some c else none
    (a.ok = true →
      (Session.mk s .getMode).run [.host] = .next
        ⟨after s.params.addrMode1, .finished (.mode (a.bytes[2].extractLsb' 5 2))⟩ ∧
      (Session.mk s .getRate).run [.host] = .next
        ⟨after s.params.addrMode0, .finished (.rate (code s.params.drValid (a.bytes[2].extractLsb' 3 4)))⟩ ∧
      (Session.mk s .getMux).run [.host] = .next
        ⟨after s.params.addrInpmux, .finished (.mux (code s.params.muxValid (a.bytes[2].extractLsb' 4 4))
          (code s.params.muxValid (a.bytes[2].extractLsb' 0 4)))⟩) ∧
    (a.ok = false → s.params.busCanFail = true → ∀ q ∈ [Sequence.getMode, .getRate, .getMux],
      ∃ t, (Session.mk s q).run [.host] = .next ⟨t, .finished (.failed 0x05)⟩ ∧
        t.responses = s.responses ++ [⟨0x05, 0⟩])

/-- R199, R201: a setter with a code outside its set, or with `INVALID`, is refused before any command: the sequence
is over and a turn of the host changes nothing. -/
def Obligations.InvalidCodesIssueNoCommand : Prop :=
  ∀ s : State,
    (∀ c : Option (BitVec 4), (∀ k, c = some k → k ∉ s.params.drValid) →
      (Session.mk s (.setRate s.params c)).turn .host = .next ⟨s, .finished .refusedCode⟩) ∧
    (∀ pos neg : Option (BitVec 4),
      ((∀ k, pos = some k → k ∉ s.params.muxValid) ∨ (∀ k, neg = some k → k ∉ s.params.muxValid)) →
      (Session.mk s (.setMux s.params pos neg)).turn .host = .next ⟨s, .finished .refusedCode⟩)

/-- R202: whatever else happens meanwhile, a `WAIT k` that has ended let at least `k` ticks pass. -/
def Obligations.WaitLastsItsTicks : Prop :=
  ∀ (s : State) (k : Nat) (turns : List Turn) (y : Session),
    (Session.mk s (.wait k)).run turns = .next y → y.host = .finished .done → k ≤ turns.count .tick

/-- R203, R204(b), R204(c): the create step of `CALIBRATE` by the number of edges counted: none and more than 8192
end the calibration and keep the buffer; any other number installs a buffer of twice the count. -/
def Obligations.CalibrationCreateByCount : Prop :=
  ∀ (s : State) (n : Nat),
    (n = 0 → (Session.mk s (.calCreate n)).turn .host = .next
      ⟨{ s with responses := s.responses ++ [⟨0x02, 0⟩] }, .finished (.failed 0x02)⟩) ∧
    (8192 < n → (Session.mk s (.calCreate n)).turn .host = .next
      ⟨{ s with responses := s.responses ++ [⟨0x03, 0⟩] }, .finished (.failed 0x03)⟩) ∧
    (1 ≤ n → n ≤ 8192 → ∃ c : Capacity, c.toNat = 2 * n ∧ (Session.mk s (.calCreate n)).turn .host = .next
      ⟨{ s with
          cap := c, head := 0, count := 0, sum := 0, bufValid := true
          responses := s.responses ++ [⟨0x00, 0⟩] }, .calClear⟩)

/-- R204(a): whatever edges, services and ticks fall between its commands, a `CALIBRATE` that has succeeded leaves a
buffer whose capacity is twice the edge count of its window. The host runs this one sequence and issues no other
command in between (log entry 11). -/
def Obligations.CalibrationSizesTheBuffer : Prop :=
  ∀ (s : State) (turns : List Turn) (y : Session),
    (Session.mk s .calibrate).run turns = .next y → y.host = .finished .done →
    y.block.bufValid = true ∧ y.block.cap.toNat = 2 * y.block.edgeCount.toNat ∧
      1 ≤ y.block.edgeCount.toNat ∧ y.block.edgeCount.toNat ≤ 8192

/-- R204(e): a `CALIBRATE` that has succeeded let at least `SETTLE_TICKS + WINDOW_TICKS` ticks pass, which are 1100 with
the values of R5. The host runs this one sequence and issues no other command in between (log entry 11). -/
def Obligations.CalibrationLasts1100Ticks : Prop :=
  ∀ (s : State) (turns : List Turn) (y : Session),
    (Session.mk s .calibrate).run turns = .next y → y.host = .finished .done →
    s.params.settleTicks.toNat + s.params.windowTicks.toNat ≤ turns.count .tick ∧
      (s.params.settleTicks = 100 → s.params.windowTicks = 1000 → 1100 ≤ turns.count .tick)

/-- E3, E4, E7 (R67): against the reference device, which is a fixture and no hardware, with no exchange failing, a
setter followed by its getter returns what was set, and the other bits of the register stay. -/
def Obligations.ReferenceDeviceRoundTrips : Prop :=
  ∀ (s : State) (d : RefDevice), d.failing = [] →
    (∀ m : AcqMode, ∃ b c, (Bench.mk ⟨s, .setMode s.params m⟩ d).run 2 = .next b ∧ b.session.host = .finished .done ∧
      (b.start .getMode).run 1 = .next c ∧ c.session.host = .finished (.mode (modeCode s.params m)) ∧
      c.device.regs[s.params.addrMode1.toFin] &&& 0x9F#8 = d.regs[s.params.addrMode1.toFin] &&& 0x9F#8) ∧
    (∀ k ∈ s.params.drValid, ∃ b c, (Bench.mk ⟨s, .setRate s.params (some k)⟩ d).run 2 = .next b ∧
      b.session.host = .finished .done ∧
      (b.start .getRate).run 1 = .next c ∧ c.session.host = .finished (.rate (some k)) ∧
      c.device.regs[s.params.addrMode0.toFin] &&& 0x87#8 = d.regs[s.params.addrMode0.toFin] &&& 0x87#8) ∧
    (∀ pos ∈ s.params.muxValid, ∀ neg ∈ s.params.muxValid, ∃ b c,
      (Bench.mk ⟨s, .setMux s.params (some pos) (some neg)⟩ d).run 1 = .next b ∧ b.session.host = .finished .done ∧
      (b.start .getMux).run 1 = .next c ∧ c.session.host = .finished (.mux (some pos) (some neg)))

/-- R103: the forms of a host program's line and the words they stand for, the fourteen commands that stand alone and
the registers named by their parameter among them. The ranges of the numbers are the model's choice, log entry 13. -/
def Obligations.SourceLinesAssemble : Prop :=
  ∀ (p : Params) (r : DeviceReg) (n v : Int),
    (0 ≤ n → n < 32 → ∃ a : RegAddr, (a.toNat : Int) = n ∧
      assembleLine p ⟨"RREG", [.num n]⟩ = some [.command (encode (.rreg a))]) ∧
    assembleLine p ⟨"RREG", [.reg r]⟩ = some [.command (encode (.rreg (p.addr r)))] ∧
    (0 ≤ n → n < 32 → 0 ≤ v → v < 256 → ∃ (a : RegAddr) (b : Byte), (a.toNat : Int) = n ∧ (b.toNat : Int) = v ∧
      assembleLine p ⟨"WREG", [.num n, .num v]⟩ = some [.command (encode (.wreg a b))]) ∧
    (0 ≤ v → v < 256 → ∃ b : Byte, (b.toNat : Int) = v ∧
      assembleLine p ⟨"WREG", [.reg r, .num v]⟩ = some [.command (encode (.wreg (p.addr r) b))]) ∧
    (0 ≤ n → n < 4294967296 → ∃ c : BitVec 32, (c.toNat : Int) = n ∧
      assembleLine p ⟨"MAV_CREATE", [.num n]⟩ = some [.command (encode (.mavCreate c))]) ∧
    (-2147483648 ≤ n → n < 2147483648 → ∃ x : Sample, x.toInt = n ∧
      assembleLine p ⟨"MAV_ADD", [.num n]⟩ = some [.command (encode (.mavAdd x))]) ∧
    (0 ≤ n → ∃ k : Nat, (k : Int) = n ∧ assembleLine p ⟨"TICK", [.num n]⟩ = some (List.replicate k .tick)) ∧
    (∀ c ∈ [("RDATA", Instr.rdata), ("SFOCAL", .sfocal), ("MAV_AVG", .mavAvg), ("MAV_CLEAR", .mavClear),
        ("MAV_SNAP", .mavSnap), ("WIN_OPEN", .winOpen), ("WIN_POLL", .winPoll), ("GET_LAST", .getLast),
        ("GET_COUNT", .getCount), ("GET_STATUS", .getStatus), ("CLR_STATUS", .clrStatus), ("IRQ_EN", .irqEn),
        ("IRQ_DIS", .irqDis), ("GET_TIME", .getTime)],
      assembleLine p ⟨c.1, []⟩ = some [.command (encode c.2)]) ∧
    assembleLine p ⟨"EDGE", []⟩ = some [.edge] ∧ assembleLine p ⟨"EDGE_SERVICE", []⟩ = some [.service]
end

