-- ==== Sys2Proof/Laws/Sequences.lean ====
section
/-! SUPPORT. What the turns of a host session do: a run is cut at any point, ticks only move the time, and a turn of
the host is the meaning of the command its sequence issues. -/

namespace Sys2Proof.Machine

/-- A run over joined turns is the run over the first part, then the run over the second. -/
theorem Session.run_append (l m : List Turn) (x y : Session) (h : x.run l = .next y) :
    x.run (l ++ m) = y.run m := by
  induction l generalizing x with
  | nil => cases h; rfl
  | cons t rest ih =>
    simp only [List.cons_append, Session.run] at h ⊢
    split at h
    · exact ih _ h
    · cases h
    · cases h

/-- `k` ticks of a session add `k` to the time modulo 2^32 and do nothing else (R162). -/
theorem Session.run_ticks (k : Nat) (x : Session) :
    x.run (List.replicate k .tick) =
      .next ⟨{ x.block with time := x.block.time + BitVec.ofNat 32 k }, x.host⟩ := by
  induction k generalizing x with
  | zero => simp [Session.run]
  | succ k ih =>
    simp only [List.replicate_succ, Session.run, Session.turn, tick]
    rw [ih]
    simp only [State.advanceTime, BitVec.add_assoc, Host.Outcome.next.injEq, Session.mk.injEq, and_true]
    congr 2
    apply BitVec.eq_of_toNat_eq
    simp [BitVec.toNat_add, Nat.add_comm]

/-- A session whose sequence has finished stays as it is when the host is due. -/
theorem Session.turn_finished (s : State) (r : SeqResult) :
    (Session.mk s (.finished r)).turn .host = .next ⟨s, .finished r⟩ := rfl

/-- A turn of the host runs the command that its sequence issues next. -/
theorem Session.turn_host {x : Session} {i : Instr} {t : State} (hc : x.host.command x.block.params = some i)
    (h : exec i x.block = .next t) : x.turn .host = .next (Session.afterCommand x.host t) := by
  simp [Session.turn, hc, h]

end Sys2Proof.Machine
end

