-- ==== Sys2Proof/Tests/Slice0.lean ====
section
/-! SUPPORT. The model's own tests. Expected results are the spec's: the vectors V30, V41 to V44 of
95_test_vectors.md and the worked examples of the rules. Then one witness for the hypotheses of each statement. -/

namespace Sys2Proof.Machine.Tests

/-! ### Helpers -/

/-- What `f` reads from a next state; nothing from a stop. -/
def after {α : Type} (o : Host.Outcome State Fault Refusal) (f : State → α) : Option α :=
  match o with
  | .next s => some (f s)
  | .fault _ => none
  | .refused _ => none

/-- The same for a session. -/
def afterTurn {α : Type} (o : Host.Outcome Session Fault Refusal) (f : Session → α) : Option α :=
  match o with
  | .next s => some (f s)
  | .fault _ => none
  | .refused _ => none

/-- Reset, with these answers of the device at hand. -/
def answering (l : List Answer) : State := { State.reset with answers := l }

/-- An exchange that succeeds with these bytes. -/
def rx (b0 b1 b2 b3 b4 b5 : Byte) : Answer := ⟨true, #v[b0, b1, b2, b3, b4, b5]⟩

/-- An exchange that fails. -/
def noRx : Answer := ⟨false, #v[0, 0, 0, 0, 0, 0]⟩

/-- Reset with an empty buffer of this capacity. -/
def emptyBuffer (cap : Capacity) : State := { State.reset with bufValid := true, cap := cap }

/-- `CAP = 3`, entries 10, 20, 30. -/
def fullBuffer : State :=
  { emptyBuffer 3 with count := 3, sum := 60, buf := [(0, 10), (1, 20), (2, 30)] }

/-- A window opened at 5100 with three edges counted, an edge pending, at time `now`. -/
def inWindowAt (now : Ticks) : State :=
  { State.reset with
    winArmed := true, windowStart := 5100, time := now, edgeCount := 3, edgeEn := true, edgePending := true }

/-- An enabled interrupt with an edge pending. -/
def pending : State := { State.reset with edgeEn := true, edgePending := true }

/-! ### Well-formedness: each check refuses an ill-formed term -/

theorem test_wf_default_params : Config.defaultParams.wf = true := by decide
theorem test_wf_repeated_address : { Config.defaultParams with addrId := 0x02 }.wf = false := by decide
theorem test_wf_twelve_rates : { Config.defaultParams with drValid := List.range 12 }.wf = false := by decide
theorem test_wf_repeated_rate :
    { Config.defaultParams with drValid := [0, 1, 2, 3, 4, 5, 6, 7, 8, 9, 10, 11, 11] }.wf = false := by decide
theorem test_wf_window_not_a_second : { Config.defaultParams with windowTicks := 999 }.wf = false := by decide
theorem test_wf_settle_not_a_tenth : { Config.defaultParams with settleTicks := 101 }.wf = false := by decide
theorem test_wf_time_base_changes_together :
    { Config.defaultParams with tickHz := 2000, windowTicks := 2000, settleTicks := 200 }.wf = true := by decide
theorem test_wf_repeated_mode_code : { Config.defaultParams with modeCodes := ⟨0, 1, 2, 2⟩ }.wf = false := by decide
theorem test_wf_seven_selectors :
    { Config.defaultParams with muxValid := [0, 1, 2, 3, 4, 5, 6] }.wf = false := by decide
theorem test_wf_repeated_selector :
    { Config.defaultParams with muxValid := [0, 1, 2, 3, 4, 4] }.wf = false := by decide
theorem test_wf_unknown_mnemonic : SourceLine.wf ⟨"NOP", []⟩ = false := by decide
theorem test_wf_bare_with_operand : SourceLine.wf ⟨"RDATA", [.num 0]⟩ = false := by decide
theorem test_wf_missing_operand : SourceLine.wf ⟨"RREG", []⟩ = false := by decide
theorem test_wf_address_range : SourceLine.wf ⟨"RREG", [.num 31]⟩ = true ∧ SourceLine.wf ⟨"RREG", [.num 32]⟩ = false ∧
    SourceLine.wf ⟨"RREG", [.num (-1)]⟩ = false := by decide
theorem test_wf_value_range : SourceLine.wf ⟨"WREG", [.reg .mode1, .num 255]⟩ = true ∧
    SourceLine.wf ⟨"WREG", [.reg .mode1, .num 256]⟩ = false ∧ SourceLine.wf ⟨"WREG", [.num 3, .num (-1)]⟩ = false ∧
    SourceLine.wf ⟨"WREG", [.num 3, .reg .mode1]⟩ = false := by decide
theorem test_wf_capacity_range : SourceLine.wf ⟨"MAV_CREATE", [.num 4294967295]⟩ = true ∧
    SourceLine.wf ⟨"MAV_CREATE", [.num 4294967296]⟩ = false ∧ SourceLine.wf ⟨"MAV_CREATE", [.num (-1)]⟩ = false ∧
    SourceLine.wf ⟨"MAV_CREATE", [.reg .id]⟩ = false := by decide
theorem test_wf_sample_range : SourceLine.wf ⟨"MAV_ADD", [.num (-2147483648)]⟩ = true ∧
    SourceLine.wf ⟨"MAV_ADD", [.num (-2147483649)]⟩ = false ∧ SourceLine.wf ⟨"MAV_ADD", [.num 2147483648]⟩ = false := by
  decide
theorem test_wf_tick_count : SourceLine.wf ⟨"TICK", [.num 0]⟩ = true ∧ SourceLine.wf ⟨"TICK", [.num (-1)]⟩ = false := by
  decide

/-! ### Decoding: the words of V30 and the operation map, written out (R91, R96) -/

theorem test_decode_rdata : decode 0x1200000000 = .ok .rdata := by decide
theorem test_decode_sfocal : decode 0x1900000000 = .ok .sfocal := by decide
theorem test_decode_rreg : decode 0x2000000000 = .ok (.rreg 0x00) ∧ decode 0x3F00000000 = .ok (.rreg 0x1F) := by decide
theorem test_decode_wreg :
    decode 0x4000000000 = .ok (.wreg 0x00 0x00) ∧ decode 0x5F000000FF = .ok (.wreg 0x1F 0xFF) := by decide
theorem test_decode_mavCreate : decode 0x80FFFFFFFF = .ok (.mavCreate 4294967295) := by decide
theorem test_decode_mavAdd :
    decode 0x8180000000 = .ok (.mavAdd 0x80000000) ∧ decode 0x81FFFFFFEC = .ok (.mavAdd (-20)) := by decide
theorem test_decode_mavAvg : decode 0x8200000000 = .ok .mavAvg := by decide
theorem test_decode_mavClear : decode 0x8300000000 = .ok .mavClear := by decide
theorem test_decode_mavSnap : decode 0x8400000000 = .ok .mavSnap := by decide
theorem test_decode_winOpen : decode 0x9000000000 = .ok .winOpen := by decide
theorem test_decode_winPoll : decode 0x9100000000 = .ok .winPoll := by decide
theorem test_decode_getLast : decode 0x9200000000 = .ok .getLast := by decide
theorem test_decode_getCount : decode 0x9300000000 = .ok .getCount := by decide
theorem test_decode_getStatus : decode 0x9400000000 = .ok .getStatus := by decide
theorem test_decode_clrStatus : decode 0x9500000000 = .ok .clrStatus := by decide
theorem test_decode_irqEn : decode 0x9600000000 = .ok .irqEn := by decide
theorem test_decode_irqDis : decode 0x9700000000 = .ok .irqDis := by decide
theorem test_decode_getTime : decode 0x9800000000 = .ok .getTime := by decide

/-- V30-10 to V30-12, V30-16: an argument where the format has none. -/
theorem test_decode_nonzero_arg : decode 0x2300000001 = .error .nonzeroArg ∧
    decode 0x4300000100 = .error .nonzeroArgHigh ∧ decode 0x1200000001 = .error .nonzeroArg ∧
    decode 0x9000000001 = .error .nonzeroArg := by decide

/-- V30-13 to V30-15: the ends of the unlisted ranges. -/
theorem test_decode_unlisted_ops :
    ∀ op ∈ ([0x00, 0x06, 0x08, 0x11, 0x13, 0x18, 0x1A, 0x1F, 0x60, 0x7F, 0x85, 0x8F, 0x99, 0xFF] : List Byte),
      decode (commandWord op 0) = .error .unlistedOp := by decide

theorem test_encode_words : encode (.wreg 0x11 0x12) = 0x5100000012 ∧ encode (.mavAdd (-41)) = 0x81FFFFFFD7 ∧
    encode (.mavCreate 16385) = 0x8000004001 := by decide
theorem test_table_word : decodeTableWord 40 0x2300000000 = some (.rreg 0x03) ∧ decodeTableWord 40 0 = none := by decide

/-! ### RegisterCodec (V41) -/

theorem test_rreg_third_byte :
    after (exec (.rreg 0x00) (answering [rx 0xAB 0xCD 0x31 0 0 0])) (fun s => (s.responses, s.trace)) =
      some ([⟨0x00, 0x31⟩], [.xfer [0x20, 0x00, 0x00] (some [0xAB, 0xCD, 0x31])]) := by decide
theorem test_rreg_failed :
    after (exec (.rreg 0x03) (answering [noRx])) (fun s => (s.responses, s.trace)) =
      some ([⟨0x05, 0⟩], [.xfer [0x23, 0x00, 0x00] none]) := by decide
theorem test_wreg_bracket :
    after (exec (.wreg 0x03 0x20) (answering [rx 1 2 3 4 5 6])) (fun s => (s.responses, s.trace, s.start)) =
      some ([⟨0x00, 0⟩], [.startLow, .xfer [0x43, 0x20] (some [1, 2]), .startHigh], true) := by decide
theorem test_wreg_failed :
    after (exec (.wreg 0x1F 0xFF) (answering [noRx])) (fun s => (s.responses, s.trace, s.start)) =
      some ([⟨0x05, 0⟩], [.startLow, .xfer [0x5F, 0xFF] none, .startHigh], true) := by decide
theorem test_rdata_negative :
    after (exec .rdata { fullBuffer with lastSample := 5, answers := [rx 0 0 0x80 0x00 0x01 0] })
      (fun s => (s.responses, s.lastSample, s.count)) =
      some ([⟨0x00, 0xFFFFFFFFFF800001⟩], 5, 3) := by decide
theorem test_rdata_big_endian :
    after (exec .rdata (answering [rx 0x55 0xAA 0x01 0x02 0x03 0x99])) (fun s => s.responses) =
      some [⟨0x00, 0x010203⟩] := by decide
theorem test_sfocal_ok :
    after (exec .sfocal (answering [rx 0 0 0 0 0 0])) (fun s => (s.responses, s.trace, s.winArmed)) =
      some ([⟨0x00, 0⟩], [.xfer [0x19, 0x00] (some [0, 0])], false) := by decide
theorem test_sfocal_failed :
    after (exec .sfocal (answering [noRx])) (fun s => s.responses) = some [⟨0x05, 0⟩] := by decide

/-- With `BUS_CAN_FAIL` false every exchange succeeds (R66). -/
theorem test_exchange_cannot_fail :
    after (exec .sfocal { answering [noRx] with params := { Config.defaultParams with busCanFail := false } })
      (fun s => s.responses) = some [⟨0x00, 0⟩] := by decide

/-! ### MovingAverageBuffer (V42) -/

theorem test_mavCreate_bounds :
    after (exec (.mavCreate 16384) State.reset) (fun s => (s.responses, s.status)) = some ([⟨0x00, 0⟩], 0x40000011) ∧
    after (exec (.mavCreate 16385) State.reset) (fun s => (s.responses, s.bufValid)) = some ([⟨0x03, 0⟩], false) := by
  decide
theorem test_mavCreate_zero_keeps :
    after (exec (.mavCreate 0) fullBuffer) (fun s => (s.responses, s.count, s.sum, s.buf)) =
      some ([⟨0x02, 0⟩], 3, 60, fullBuffer.buf) := by decide
theorem test_mavAdd_evicts :
    after (exec (.mavAdd 40) fullBuffer) (fun s => (s.buf, s.head, s.count, s.sum)) =
      some ([(0, 40), (1, 20), (2, 30)], 1, 3, 90) := by decide
theorem test_mavAdd_no_buffer :
    after (exec (.mavAdd 1) State.reset) (fun s => (s.responses, s.count)) = some ([⟨0x04, 0⟩], 0) := by decide
theorem test_mavAvg_rounds_to_zero :
    after (exec .mavAvg { emptyBuffer 4 with count := 2, head := 2, sum := -7 }) (fun s => s.responses) =
      some [⟨0x00, 0xFFFFFFFFFFFFFFFD⟩] := by decide
theorem test_mavAvg_empty :
    after (exec .mavAvg (emptyBuffer 4)) (fun s => s.responses) = some [⟨0x00, 0⟩] := by decide
theorem test_mavClear_keeps_capacity :
    after (exec .mavClear fullBuffer) (fun s => (s.cap, s.head, s.count, s.sum, s.bufValid)) =
      some (3, 0, 0, 0, true) := by decide
theorem test_mavSnap_negative :
    after (exec .mavSnap { emptyBuffer 2 with count := 2, sum := -4294967296 }) (fun s => s.responses) =
      some [⟨0x00, 0x0002FFFF00000000⟩] := by decide

/-! ### Acquisition (V43) -/

theorem test_winOpen_restarts :
    after (exec .winOpen { State.reset with time := 5000, edgeCount := 9, winArmed := true, windowStart := 4500 })
      (fun s => (s.edgeCount, s.windowStart, s.winArmed)) = some (0, 5000, true) := by decide
theorem test_winPoll_wraps :
    after (exec .winPoll { State.reset with winArmed := true, windowStart := 0xFFFFFF00, time := 0x2E7 })
      (fun s => (s.responses, s.winArmed)) = some ([⟨0x00, 1⟩], true) := by decide
theorem test_winPoll_expires :
    after (exec .winPoll { State.reset with winArmed := true, windowStart := 0xFFFFFF00, time := 0x2E8 })
      (fun s => (s.responses, s.winArmed)) = some ([⟨0x00, 0⟩], false) := by decide
theorem test_getLast_sign :
    after (exec .getLast { State.reset with lastSample := 0xFF800000 }) (fun s => s.responses) =
      some [⟨0x00, 0xFFFFFFFFFF800000⟩] := by decide
theorem test_getCount_zero_extended :
    after (exec .getCount { State.reset with edgeCount := 0xFFFFFFFF }) (fun s => s.responses) =
      some [⟨0x00, 0xFFFFFFFF⟩] := by decide
theorem test_getStatus_reset :
    after (exec .getStatus State.reset) (fun s => s.responses) = some [⟨0x00, 0x10⟩] := by decide
theorem test_getStatus_program_four :
    after (exec .getStatus { emptyBuffer 2 with edgeEn := true, edgePending := true, edgeOverrun := true })
      (fun s => s.responses) = some [⟨0x00, 0x0002003D⟩] := by decide
theorem test_clrStatus_sticky :
    after (exec .clrStatus { pending with edgePending := false, bufValid := true, edgeOverrun := true, busErr := true })
      (fun s => s.status) = some 0x15 := by decide
theorem test_irqEn_status : after (exec .irqEn State.reset) (fun s => s.status) = some 0x14 := by decide
theorem test_irqDis_discards :
    after (exec .irqDis pending) (fun s => (s.edgeEn, s.edgePending, s.edgeOverrun)) = some (false, false, false) := by
  decide
theorem test_getTime : after (exec .getTime { State.reset with time := 5000 }) (fun s => s.responses) =
    some [⟨0x00, 5000⟩] := by decide

/-! ### Event steps (V43) -/

theorem test_edge_disabled : after (edgeArrives State.reset) id = some State.reset := by decide
theorem test_edge_overrun :
    after (edgeArrives pending) (fun s => (s.edgePending, s.edgeOverrun)) = some (true, true) := by decide
theorem test_service_without_buffer :
    after (edgeService { pending with answers := [rx 0 0 0x00 0x00 0x64 0] })
      (fun s => (s.lastSample, s.lastValid, s.edgePending, s.buf)) = some (100, true, false, []) := by decide
theorem test_service_pushes :
    after (edgeService { pending with bufValid := true, cap := 6, answers := [rx 0 0 0x00 0x01 0x00 0] })
      (fun s => (s.lastSample, s.count, s.sum, s.buf)) = some (256, 1, 256, [(0, 256)]) := by decide
theorem test_service_counts_inside :
    after (edgeService (inWindowAt 6099)) (fun s => (s.edgeCount, s.trace, s.winArmed)) = some (4, [], true) := by decide
theorem test_service_reads_outside :
    after (edgeService { inWindowAt 6100 with answers := [rx 0 0 0xFF 0xFF 0x9C 0] })
      (fun s => (s.edgeCount, s.winArmed, s.lastSample)) = some (3, false, -100) := by decide
theorem test_service_saturates :
    after (edgeService { inWindowAt 6000 with edgeCount := 0xFFFFFFFF }) (fun s => s.edgeCount) = some 0xFFFFFFFF := by
  decide
theorem test_service_failed :
    after (edgeService { fullBuffer with edgeEn := true, edgePending := true, lastSample := 7, answers := [noRx] })
      (fun s => (s.busErr, s.lastSample, s.buf, s.edgePending)) = some (true, 7, fullBuffer.buf, false) := by decide
theorem test_tick_wraps : after (tick { State.reset with time := 0xFFFFFFFF }) (fun s => s.time) = some 0 := by decide

/-! ### Field functions and sequences (V44) -/

theorem test_mode_fields : modeGet 0xFF = 3 ∧ modeGet 0x9F = 0 ∧ modeSet 0x8A 1 = 0xAA ∧ modeSet 0x9F 2 = 0xDF := by decide
theorem test_mode_codes : [AcqMode.normal, .chop, .twoWireAc, .fourWireAc].map (modeCode Config.defaultParams) =
    [0, 1, 2, 3] := by decide
theorem test_rate_fields : rateGet Config.defaultParams 0x60 = some 12 ∧ rateGet Config.defaultParams 0x68 = none ∧
    rateSet 0x87 12 = 0xE7 ∧ rateSet 0x68 5 = 0x28 := by decide
theorem test_mux_fields : muxPack 1 2 = 0x12 ∧ muxUnpack Config.defaultParams 0x17 = (some 1, none) ∧
    muxUnpack Config.defaultParams 0xF0 = (none, some 0) := by decide
theorem test_setRate_refused : Sequence.setRate Config.defaultParams (some 13) = .finished .refusedCode := by decide
theorem test_setMux_refused : Sequence.setMux Config.defaultParams (some 1) (some 6) = .finished .refusedCode := by decide
theorem test_calibrate_sfocal_fails :
    afterTurn ((Session.mk (answering [noRx]) .calibrate).turn .host) (fun x => x.host) = some (.finished (.failed 5)) := by
  decide
theorem test_source_line : assembleLine Config.defaultParams ⟨"WREG", [.reg .mode1, .num 0xAA]⟩ =
    some [.command 0x43000000AA] := by decide

/-! ### Witnesses: for each statement a state and operands that meet all its hypotheses, clause by clause -/

/-- A full buffer whose head has moved on (`CAP = 3`, entries 40, 20, 30), an edge pending. -/
def turned : State :=
  { emptyBuffer 3 with
    count := 3, head := 1, sum := 90, buf := [(0, 40), (1, 20), (2, 30)], edgeEn := true, edgePending := true
    lastSample := 40, lastValid := true, trace := [.startLow, .xfer [0x43, 0x20] none, .startHigh] }

/-- `CAP = 3`, entries 10 and 20. -/
def partlyFilled : State :=
  { emptyBuffer 3 with count := 2, head := 2, sum := 30, buf := [(0, 10), (1, 20)] }

theorem test_witness_inv_turned : BlockInv turned where
  startHigh := by decide
  capRange := by decide
  countLe := by decide
  headLt := by decide
  headEqCount := by decide
  sumExact := by decide
  pendingEnabled := by decide
  lastUnwritten := by decide
  noBuffer := by decide
  traceBracketed := by decide
  filledHoldValues := fun _ j hj => Option.isSome_iff_exists.mp ((by decide : ∀ j < 3, (Memory.read turned.buf j).isSome) j hj)
  bufCanonical := by decide

theorem test_witness_inv_partlyFilled : BlockInv partlyFilled where
  startHigh := by decide
  capRange := by decide
  countLe := by decide
  headLt := by decide
  headEqCount := by decide
  sumExact := by decide
  pendingEnabled := by decide
  lastUnwritten := by decide
  noBuffer := by decide
  traceBracketed := by decide
  filledHoldValues := fun _ j hj =>
    Option.isSome_iff_exists.mp ((by decide : ∀ j < 2, (Memory.read partlyFilled.buf j).isSome) j hj)
  bufCanonical := by decide

theorem test_witness_DecodeFollowsOperationMap :
    (∃ r ∈ opcodeTable, (0x3F00000000 : CommandWord) &&& r.mask = r.pattern) ∧
      decode 0x3F00000000 = .ok (.rreg 0x1F) := by decide

theorem test_witness_IllegalWords_no_row : ∀ r ∈ opcodeTable, (0x0600000000 : CommandWord) &&& r.mask ≠ r.pattern := by decide

/-- The ends of every range of R100(a). -/
theorem test_witness_IllegalWords_ops :
    ∀ op ∈ ([0x00, 0x11, 0x13, 0x18, 0x1A, 0x1F, 0x60, 0x7F, 0x85, 0x8F, 0x99, 0xFF] : List Byte),
      (op.toNat ≤ 0x11 ∨ (0x13 ≤ op.toNat ∧ op.toNat ≤ 0x18) ∨ (0x1A ≤ op.toNat ∧ op.toNat ≤ 0x1F) ∨
        (0x60 ≤ op.toNat ∧ op.toNat ≤ 0x7F) ∨ (0x85 ≤ op.toNat ∧ op.toNat ≤ 0x8F) ∨ 0x99 ≤ op.toNat) ∧
      ∀ r ∈ opcodeTable, commandWord op 0 &&& r.mask ≠ r.pattern := by decide

/-- R100(b) and R100(c) at the ends of the address ranges. -/
theorem test_witness_IllegalWords_args :
    (∀ op ∈ ([0x12, 0x20, 0x3F, 0x98] : List Byte),
      ∀ r ∈ opcodeTable, commandWord op 0x80000000 &&& r.mask ≠ r.pattern) ∧
    (∀ op ∈ ([0x40, 0x5F] : List Byte), ∀ r ∈ opcodeTable, commandWord op 0x100 &&& r.mask ≠ r.pattern) := by decide

theorem test_witness_StepRunsTheDecodedCommand :
    { State.reset with inputs := [.command 0x8200000000, .tick] }.inputs = .command 0x8200000000 :: [.tick] ∧
      decode 0x8200000000 = .ok .mavAvg := by decide

theorem test_witness_StepRunsTheNextEvent :
    { State.reset with inputs := [.edge] }.inputs = .edge :: [] ∧
      { State.reset with inputs := [.service, .tick] }.inputs = .service :: [.tick] ∧
      { State.reset with inputs := [.tick] }.inputs = .tick :: [] ∧ State.reset.inputs = [] := by decide

theorem test_witness_PlacedWordRunsNext : decodeTableWord 40 0x5F000000FF = some (.wreg 0x1F 0xFF) := by decide

/-- The exchange of each of the four frames succeeds in one state and fails in another. -/
theorem test_witness_exchanges :
    ∀ tx ∈ ([[0x3F, 0, 0], [0x5F, 0xFF], [0x12, 0, 0, 0, 0, 0], [0x19, 0]] : List (List Byte)),
      (answering [rx 0 1 2 3 4 5]).exchangeOk tx = true ∧ (answering [noRx]).exchangeOk tx = false ∧
      { answering [rx 0 1 2 3 4 5] with start := false, trace := [.startLow] }.exchangeOk tx = true ∧
      { answering [noRx] with start := false, trace := [.startLow] }.exchangeOk tx = false := by decide

theorem test_witness_UnusedInboundBytes :
    (rx 1 2 3 4 5 6).ok = (rx 9 8 3 4 5 7).ok ∧ (rx 1 2 3 4 5 6).bytes[2] = (rx 9 8 3 4 5 7).bytes[2] ∧
      (after (perform .service { turned with answers := [rx 1 2 3 4 5 6] }) (fun t => t.lastSample)) = some 0x030405 := by
  decide

theorem test_witness_MavCreateByCapacity :
    after (exec (.mavCreate 1) State.reset) (fun s => (s.cap, s.bufValid)) = some (1, true) ∧
      after (exec (.mavCreate 16384) turned) (fun s => (s.cap, s.count)) = some (16384, 0) ∧
      after (exec (.mavCreate 16385) turned) (fun s => (s.cap, s.count)) = some (3, 3) ∧
      after (exec (.mavCreate 0xFFFFFFFF) State.reset) (fun s => s.responses) = some [⟨0x03, 0⟩] := by decide

theorem test_witness_MavAdd_clauses :
    partlyFilled.bufValid = true ∧ partlyFilled.count ≠ partlyFilled.cap ∧
      turned.bufValid = true ∧ turned.count = turned.cap ∧ Memory.read turned.buf turned.head.toNat = some 20 ∧
      State.reset.bufValid = false := by decide

theorem test_witness_EvictingAnUnfilledEntryStops :
    let s : State := { emptyBuffer 1 with count := 1 }
    s.bufValid = true ∧ s.count = s.cap ∧ Memory.read s.buf s.head.toNat = none := by decide

theorem test_witness_MavAvg_clauses :
    State.reset.bufValid = false ∧ (emptyBuffer 1).bufValid = true ∧ (emptyBuffer 1).count = 0 ∧
      turned.bufValid = true ∧ turned.count ≠ 0 := by decide

theorem test_witness_MavAddKeepsTheMostRecent :
    turned.recent = [20, 30, 40] ∧ after (turned.mavAdd 50) (fun t => (t.recent, t.sum)) = some ([30, 40, 50], 120) := by
  decide

/-- E6 with a capacity of 2 and three pushes. -/
theorem test_witness_PushesAfterCreate :
    after (Sys2Proof.core.run 4
      { turned with inputs := [.command 0x8000000002, .command 0x8100000007, .command 0x8100000008, .command 0x8100000009] })
      (fun t => (t.recent, t.sum, t.cap)) = some ([8, 9], 17, 2) := by decide

/-- The window at its boundary: 0 and 999 ticks elapsed are inside, 1000 is outside. -/
theorem test_witness_WinPoll_clauses :
    (inWindowAt 5100).winArmed = true ∧ (inWindowAt 5100).time - (inWindowAt 5100).windowStart < Config.defaultParams.windowTicks ∧
      (inWindowAt 6099).time - (inWindowAt 6099).windowStart < Config.defaultParams.windowTicks ∧
      ¬ (inWindowAt 6100).time - (inWindowAt 6100).windowStart < Config.defaultParams.windowTicks ∧ State.reset.winArmed = false := by decide

/-- A closed window and a disabled interrupt, and a run over a schedule without `WIN_OPEN` and `IRQ_EN`. -/
theorem test_witness_runs :
    let s : State := { State.reset with inputs := [.tick, .command 0x9100000000, .edge] }
    s.winArmed = false ∧ s.edgeEn = false ∧ s.edgePending = false ∧
      (∀ e ∈ s.inputs, e ≠ .command 0x9000000000 ∧ e ≠ .command 0x9600000000) ∧
      after (Sys2Proof.core.run 3 s) (fun t => (t.time, t.inputs)) = some (1, []) := by decide

/-- A schedule whose part without `IRQ_EN` (an ignored edge) is followed by a part without an edge (`IRQ_EN`). -/
theorem test_witness_IrqDis_schedule :
    let s : State := { State.reset with inputs := [.edge, .command 0x9600000000] }
    s.edgeEn = false ∧ s.edgePending = false ∧ s.inputs = [.edge] ++ [.command 0x9600000000] ∧
      Input.edge ∉ [Input.command 0x9600000000] ∧
      after (Sys2Proof.core.run 2 s) (fun t => (t.edgeEn, t.edgePending)) = some (true, false) := by decide

theorem test_witness_Edge_clauses :
    State.reset.edgeEn = false ∧ { State.reset with edgeEn := true }.edgeEn = true ∧
      { State.reset with edgeEn := true }.edgePending = false ∧ pending.edgeEn = true ∧ pending.edgePending = true := by
  decide

theorem test_witness_EdgeService_clauses :
    State.reset.edgePending = false ∧
      ((inWindowAt 6099).edgePending = true ∧ (inWindowAt 6099).winArmed = true) ∧
      ((inWindowAt 6100).edgePending = true ∧ ¬ (inWindowAt 6100).time - (inWindowAt 6100).windowStart < Config.defaultParams.windowTicks) ∧
      ({ inWindowAt 6100 with answers := [noRx] }.exchangeOk [0x12, 0, 0, 0, 0, 0] = false) ∧
      ({ pending with answers := [rx 0 0 0 0 1 0] }.exchangeOk [0x12, 0, 0, 0, 0, 0] = true) ∧
      pending.winArmed = false ∧ pending.bufValid = false ∧ turned.edgePending = true ∧ turned.winArmed = false ∧
      turned.bufValid = true := by decide

/-- Each event and a command that responds: every input gives a next state. -/
theorem test_witness_perform :
    (after (perform (.command 0x8000000000) turned) (fun t => t.responses) = some [⟨0x02, 0⟩]) ∧
      (after (perform .edge turned) (fun t => t.edgeOverrun) = some true) ∧
      (after (perform .tick turned) (fun t => t.time) = some 1) ∧
      (after (perform (.command 0x5F000000FF) { turned with answers := [noRx] }) (fun t => t.trace.length) = some 6) := by
  decide

/-- The five fault codes, each responded by a command. -/
theorem test_witness_FaultsHaveTheirCauses :
    (after (perform (.command 0xFF00000000) State.reset) (fun t => t.responses) = some [⟨0x01, 0⟩]) ∧
      (after (perform (.command 0x8000000000) State.reset) (fun t => t.responses) = some [⟨0x02, 0⟩]) ∧
      (after (perform (.command 0x8000004001) State.reset) (fun t => t.responses) = some [⟨0x03, 0⟩]) ∧
      (after (perform (.command 0x8400000000) State.reset) (fun t => t.responses) = some [⟨0x04, 0⟩]) ∧
      (after (perform (.command 0x2300000000) (answering [noRx])) (fun t => t.responses) = some [⟨0x05, 0⟩]) ∧
      (after (perform (.command 0x5F000000FF) (answering [noRx])) (fun t => t.responses) = some [⟨0x05, 0⟩]) := by decide

/-- The run in which only time passes, from reset. -/
def ticking : Execution where
  state n := { State.reset with time := BitVec.ofNat 32 n }
  event _ := .tick
  follows n := by simp [perform, tick, State.advanceTime, BitVec.ofNat_add]

theorem test_witness_FairTicks :
    ticking.Fair ∧ ∀ m w, 0 ≤ m → ticking.event m = .command w → decode w ≠ .ok .winOpen :=
  ⟨⟨fun n h => absurd h (by simp [ticking, State.reset, State.resetWith]), fun n => ⟨n, Nat.le_refl n, rfl⟩⟩,
    fun _ _ _ h => by cases h⟩

theorem test_witness_EveryStepKeepsTheInvariants :
    BlockInv { turned with inputs := [.service], answers := [rx 0 0 0 0 5 0] } ∧
      { turned with inputs := [.service] }.nextEnabled ∧
      after (step { turned with inputs := [.service], answers := [rx 0 0 0 0 5 0] }) (fun t => (t.sum, t.head, t.recent)) =
        some (75, 2, [30, 40, 5]) :=
  ⟨{ test_witness_inv_turned with }, fun _ => rfl, by decide⟩

theorem test_witness_codes :
    0 ∈ Config.defaultParams.drValid ∧ 12 ∈ Config.defaultParams.drValid ∧ 13 ∉ Config.defaultParams.drValid ∧
      5 ∈ Config.defaultParams.muxValid ∧ 6 ∉ Config.defaultParams.muxValid ∧
      (0x60 : Byte).extractLsb' 3 4 ∈ Config.defaultParams.drValid ∧
      (0x68 : Byte).extractLsb' 3 4 ∉ Config.defaultParams.drValid ∧
      (0x56 : Byte).extractLsb' 4 4 ∈ Config.defaultParams.muxValid ∧
      (0x56 : Byte).extractLsb' 0 4 ∉ Config.defaultParams.muxValid ∧
      (0x65 : Byte).extractLsb' 4 4 ∉ Config.defaultParams.muxValid ∧
      (0x65 : Byte).extractLsb' 0 4 ∈ Config.defaultParams.muxValid := by decide

/-- P3 lines 1 and 2: `SET_MODE chop` on the byte `0x8A`. -/
theorem test_witness_SettersSendReadModifyWrite :
    afterTurn ((Session.mk (answering [rx 0xFF 0x23 0x8A 0 0 0, rx 0xFF 0x43 0 0 0 0])
        (.setMode Config.defaultParams .chop)).run [.host, .host])
      (fun y => (y.host, y.block.trace.getLast?, y.block.trace[2]?)) =
      some (.finished .done, some .startHigh, some (.xfer [0x43, 0xAA] (some [0xFF, 0x43]))) := by decide

/-- V41-3 within `SET_MODE`: the read fails, and two further turns of the host issue nothing. -/
theorem test_witness_FailedSetterIssuesNothingMore :
    noRx.ok = false ∧ (answering [noRx]).params.busCanFail = true ∧
      afterTurn ((Session.mk (answering [noRx]) (.setMode Config.defaultParams .chop)).run [.host, .host, .host])
        (fun y => (y.host, y.block.trace)) =
        some (.finished (.failed 5), [.xfer [0x23, 0x00, 0x00] none]) := by decide

theorem test_witness_GettersDecodeTheAnswer :
    (rx 0xFF 0x22 0x68 0 0 0).ok = true ∧ noRx.ok = false ∧ Config.defaultParams.busCanFail = true ∧
      afterTurn ((Session.mk (answering [rx 0xFF 0x22 0x68 0 0 0]) .getRate).run [.host]) (fun y => y.host) =
        some (.finished (.rate none)) := by decide

theorem test_witness_InvalidCodes :
    (∀ k, some (13 : BitVec 4) = some k → k ∉ State.reset.params.drValid) ∧
      (∀ k, (none : Option (BitVec 4)) = some k → k ∉ State.reset.params.muxValid) :=
  ⟨fun k h => by cases h; decide, fun k h => by cases h⟩

theorem test_witness_WaitLastsItsTicks :
    afterTurn ((Session.mk State.reset (.wait 2)).run [.host, .tick, .host, .tick, .host]) (fun y => y.host) =
      some (.finished .done) := by decide

/-- The four boundaries of the create step: 0, 1, 8192 and 8193 edges. -/
theorem test_witness_CalibrationCreateByCount :
    afterTurn ((Session.mk turned (.calCreate 0)).turn .host) (fun y => (y.host, y.block.cap)) =
        some (.finished (.failed 0x02), 3) ∧
      afterTurn ((Session.mk turned (.calCreate 1)).turn .host) (fun y => (y.host, y.block.cap)) = some (.calClear, 2) ∧
      afterTurn ((Session.mk turned (.calCreate 8192)).turn .host) (fun y => (y.host, y.block.cap)) =
        some (.calClear, 16384) ∧
      afterTurn ((Session.mk turned (.calCreate 8193)).turn .host) (fun y => (y.host, y.block.cap)) =
        some (.finished (.failed 0x03), 3) := by decide

/-- The turns of a calibration with one edge: `SFOCAL` and the first `GET_TIME`; the settle delay; `GET_TIME`,
`WIN_OPEN` and an edge; the window; `WIN_POLL`, `GET_COUNT`, `MAV_CREATE`, `MAV_CLEAR`. -/
def calibrationTurns : List Turn :=
  [.host, .host] ++ (List.replicate 100 .tick ++ ([.host, .host, .edge, .service] ++
    (List.replicate 1000 .tick ++ [.host, .host, .host, .host])))

/-- R204(a) with N = 1: the calibration succeeds and the capacity is 2. -/
theorem test_witness_calibration :
    afterTurn ((Session.mk { answering [rx 0 0 0 0 0 0] with edgeEn := true } .calibrate).run calibrationTurns)
      (fun y => (y.host, y.block.cap, y.block.edgeCount)) = some (.finished .done, 2, 1) := by
  unfold calibrationTurns
  rw [Session.run_append _ _ _ _ rfl, Session.run_append _ _ _ _ (Session.run_ticks 100 _),
    Session.run_append _ _ _ _ rfl, Session.run_append _ _ _ _ (Session.run_ticks 1000 _)]
  decide

theorem test_witness_ReferenceDevice :
    let d : RefDevice := ⟨Vector.replicate 32 0x8A, [], [], 0⟩
    d.failing = [] ∧ 12 ∈ State.reset.params.drValid ∧ 5 ∈ State.reset.params.muxValid := by decide

theorem test_witness_SourceLines :
    assembleLine Config.defaultParams ⟨"RREG", [.num 31]⟩ = some [.command 0x3F00000000] ∧
      assembleLine Config.defaultParams ⟨"WREG", [.num 0, .num 255]⟩ = some [.command 0x40000000FF] ∧
      assembleLine Config.defaultParams ⟨"WREG", [.reg .inpmux, .num 18]⟩ = some [.command 0x5100000012] ∧
      assembleLine Config.defaultParams ⟨"GET_TIME", []⟩ = some [.command 0x9800000000] ∧
      assembleLine Config.defaultParams ⟨"MAV_CREATE", [.num 4294967295]⟩ = some [.command 0x80FFFFFFFF] ∧
      assembleLine Config.defaultParams ⟨"MAV_ADD", [.num (-2147483648)]⟩ = some [.command 0x8180000000] ∧
      assembleLine Config.defaultParams ⟨"TICK", [.num 2]⟩ = some [.tick, .tick] := by decide

end Sys2Proof.Machine.Tests
end

section
/-! SUPPORT. The step of the block (spec 00_scope.md rule R9, 20_memory.md rule R70). -/

namespace Sys2Proof.Machine

/-- Settles O5: the step performs its next input, and performing a word that decodes to a command is that command's
meaning. -/
theorem stepRunsTheDecodedCommand : Obligations.StepRunsTheDecodedCommand := by
  intro s w rest i hinputs hdecode
  calc step s = perform (.command w) { s with inputs := rest } := step_of_input hinputs
    _ = exec i { s with inputs := rest } := perform_of_decode hdecode

end Sys2Proof.Machine
end

section
/-! SUPPORT. What performing one input can do, said once for all inputs (spec 30_encoding.md rule R96, 43_acquisition.md
rules R160 to R162): the frame rules of the registers and the step lemma of the invariants are case splits over it. -/

namespace Sys2Proof.Machine

variable {s t : State} {e : Input}

/-- What performing an input can make of the state `s`: one constructor for each kind of writes, the fault responses
and the commands that only read being one kind. A push carries its store along with the equation of `mavAdd` that
gives it. -/
inductive InputEffect (s : State) : Input → State → Prop where
  | respond {w : CommandWord} (st : BitVec 8) (d : Data) : InputEffect s (.command w) (s.respond st d)
  | exchange {w : CommandWord} {n : Nat} (tx : Vector Byte n) (hn : n ≤ 6) (r : Except HostFault Data) :
      InputEffect s (.command w) ((s.afterXfer tx hn).finish r)
  | writeRegister {w : CommandWord} {addr : RegAddr} {value : Byte} {n : Nat} (hd : decode w = .ok (.wreg addr value))
      (tx : Vector Byte n) (hn : n ≤ 6) (r : Except HostFault Data) :
      InputEffect s (.command w) ((s.startLow.afterXfer tx hn).startHigh.finish r)
  | install {w : CommandWord} {cap : BitVec 32} (hd : decode w = .ok (.mavCreate cap)) (hpos : 1 ≤ cap.toNat)
      (hle : cap.toNat ≤ 16384) : InputEffect s (.command w) ((s.installBuffer (cap.setWidth 15)).respond 0x00 0)
  | push {w : CommandWord} {v : Sample} {base : RunningSum} {c : Capacity} (hb : s.bufValid = true)
      (hm : s.mavAdd v = .next (s.storeSample v base c)) :
      InputEffect s (.command w) ((s.storeSample v base c).respond 0x00 0)
  | empty {w : CommandWord} (hb : s.bufValid = true) : InputEffect s (.command w) (s.emptyBuffer.respond 0x00 0)
  | openWindow {w : CommandWord} (hd : decode w = .ok .winOpen) :
      InputEffect s (.command w) (s.openWindow.respond 0x00 0)
  | closeWindow {w : CommandWord} (hw : s.inWindow = false) : InputEffect s (.command w) (s.closeWindow.respond 0x00 0)
  | clearSticky {w : CommandWord} : InputEffect s (.command w) (s.clearSticky.respond 0x00 0)
  | enable {w : CommandWord} (hd : decode w = .ok .irqEn) :
      InputEffect s (.command w) ((s.setEdgeEn true).respond 0x00 0)
  | disable {w : CommandWord} : InputEffect s (.command w) ((s.setEdgeEn false).clearPending.respond 0x00 0)
  | ignoreEdge (hen : s.edgeEn = false) : InputEffect s .edge s
  | latchEdge (hen : s.edgeEn = true) : InputEffect s .edge s.latchEdge
  | countEdge (hw : s.inWindow = true) : InputEffect s .service s.clearPending.countEdge
  | failedRead : InputEffect s .service s.clearPending.closeWindow.afterRawSample.flagBusError
  | latchSample (v : Sample) : InputEffect s .service (s.clearPending.closeWindow.afterRawSample.latchSample v)
  | latchAndPush {v : Sample} {base : RunningSum} {c : Capacity} (hb : s.bufValid = true)
      (hm : (s.clearPending.closeWindow.afterRawSample.latchSample v).mavAdd v =
        .next ((s.clearPending.closeWindow.afterRawSample.latchSample v).storeSample v base c)) :
      InputEffect s .service ((s.clearPending.closeWindow.afterRawSample.latchSample v).storeSample v base c)
  | tick : InputEffect s .tick s.advanceTime

/-- A push that answers a next state is one store. -/
theorem State.mavAdd_next_storeSample {v : Sample} (h : s.mavAdd v = .next t) :
    ∃ base c, t = s.storeSample v base c := by
  obtain ⟨-, ht⟩ | ⟨_, -, -, ht⟩ := State.mavAdd_next h
  · exact ⟨_, _, ht⟩
  · exact ⟨_, _, ht⟩

/-- What a command does is one of the kinds, under its own word (R96). -/
theorem exec_effect {w : CommandWord} {i : Instr} (hd : decode w = .ok i) (h : exec i s = .next t) :
    InputEffect s (.command w) t := by
  cases i with
  | rdata => cases h; exact .exchange _ _ _
  | sfocal => cases h; exact .exchange _ _ _
  | rreg addr => cases h; exact .exchange _ _ _
  | wreg addr value => cases h; exact .writeRegister hd _ _ _
  | mavCreate cap =>
    obtain ⟨-, rfl⟩ | ⟨-, rfl⟩ | ⟨hpos, hle, rfl⟩ := execMavCreate_next h
    · exact .respond _ _
    · exact .respond _ _
    · exact .install hd hpos hle
  | mavAdd v =>
    obtain ⟨-, rfl⟩ | ⟨hb, u, hu, rfl⟩ := execMavAdd_next h
    · exact .respond _ _
    · obtain ⟨base, c, rfl⟩ := State.mavAdd_next_storeSample hu
      exact .push hb hu
  | mavAvg =>
    cases h
    split
    · exact .respond _ _
    · exact .respond _ _
  | mavClear =>
    cases h
    split
    · exact .empty ‹_›
    · exact .respond _ _
  | mavSnap =>
    cases h
    split
    · exact .respond _ _
    · exact .respond _ _
  | winOpen => cases h; exact .openWindow hd
  | winPoll =>
    cases h
    split
    · exact .respond _ _
    · exact .closeWindow (Bool.eq_false_iff.mpr ‹_›)
  | getLast => cases h; exact .respond _ _
  | getCount => cases h; exact .respond _ _
  | getStatus => cases h; exact .respond _ _
  | clrStatus => cases h; exact .clearSticky
  | irqEn => cases h; exact .enable hd
  | irqDis => cases h; exact .disable
  | getTime => cases h; exact .respond _ _

theorem edgeService_effect (h : edgeService s = .next t) : InputEffect s .service t := by
  obtain ⟨-, ⟨hw, rfl⟩ | ⟨-, hsample⟩⟩ := edgeService_next h
  · exact .countEdge hw
  · obtain ⟨-, rfl⟩ | ⟨v, -, ⟨-, rfl⟩ | ⟨hb, hpush⟩⟩ := serviceSample_next hsample
    · exact .failedRead
    · exact .latchSample v
    · obtain ⟨base, c, rfl⟩ := State.mavAdd_next_storeSample hpush
      exact .latchAndPush hb hpush

/-- Everything an input that gives a next state can do. -/
theorem perform_effect (h : perform e s = .next t) : InputEffect s e t := by
  cases e with
  | command w =>
    cases hd : decode w with
    | ok i => exact exec_effect hd (perform_of_decode hd ▸ h)
    | error f =>
      simp only [perform, hd, Host.Outcome.next.injEq] at h
      subst h
      exact .respond _ _
  | edge =>
    obtain ⟨hen, rfl⟩ | ⟨hen, rfl⟩ := edgeArrives_next h
    · exact .latchEdge hen
    · exact .ignoreEdge hen
  | service => exact edgeService_effect h
  | tick => cases h; exact .tick

end Sys2Proof.Machine
end

section
/-! SUPPORT. Which inputs write which registers (spec 10_state.md rules R21 to R33), each a case split over
`InputEffect`: a kind of writes that does not touch the register is closed by the field lemmas of the state. -/

namespace Sys2Proof.Machine

/-- Settles O37: only the kinds of the service latch a sample. -/
theorem onlyTheServiceWritesLastSample : Obligations.OnlyTheServiceWritesLastSample := by
  intro e s t h hservice
  cases perform_effect h with
  | countEdge | failedRead | latchSample | latchAndPush => exact absurd rfl hservice
  | _ => simp

/-- Settles O38: only the kind of `WIN_OPEN` opens a window, and the count of an edge is the service's. -/
theorem windowRegistersHaveTheirWriters : Obligations.WindowRegistersHaveTheirWriters := by
  intro e s t h hopen
  cases perform_effect h with
  | openWindow hd => exact absurd hd (hopen _ rfl)
  | _ => simp

/-- Settles O39: only the kind of `MAV_CREATE` writes the two registers, and it sets `BUF_VALID`. -/
theorem onlyMavCreateInstallsABuffer : Obligations.OnlyMavCreateInstallsABuffer := by
  intro e s t h
  cases perform_effect h with
  | install hd => exact ⟨fun _ => rfl, fun hcreate => absurd hd (hcreate _ _ rfl)⟩
  | _ => simp

/-- Settles O40: only the kind of `TICK` writes `TIME`, and none writes the parameters. -/
theorem onlyTicksChangeTime : Obligations.OnlyTicksChangeTime := by
  intro e s t h
  cases perform_effect h with
  | tick => exact ⟨rfl, fun hne => absurd rfl hne⟩
  | _ => simp

/-- Settles O41: an exchange appends its own event, `WREG` the bracket around it, and nothing else writes the
trace. -/
theorem traceOnlyGrows : Obligations.TraceOnlyGrows := by
  intro e s t h
  cases perform_effect h with
  | writeRegister hd tx hn r =>
    exact ⟨[.startLow, .xfer tx.toList ((s.startLow.xferResult tx hn).map Vector.toList), .startHigh], by simp,
      by simp, fun hwreg => absurd hd (hwreg _ _ _ rfl)⟩
  | exchange tx hn r => exact ⟨[_], State.finish_trace _ r, by simp⟩
  | failedRead | latchSample | latchAndPush => exact ⟨[_], rfl, by simp⟩
  | _ => exact ⟨[], by simp⟩

end Sys2Proof.Machine
end

section
/-! SUPPORT. `SUM` as the sum of the filled entries, an integer (spec 10_state.md rule R28): how a store changes that
sum, its bound, and the 48-bit arithmetic that stays exact below the bound. -/

namespace Sys2Proof.Machine

variable {s : State}

/-- The entry of an index as an integer, 0 where the entry holds no value. -/
def Memory.entryValue (m : Memory) (i : Nat) : Int := ((Memory.read m i).map BitVec.toInt).getD 0

theorem Memory.entryValue_of_read {m : Memory} {i : Nat} {v : Sample} (h : Memory.read m i = some v) :
    Memory.entryValue m i = v.toInt := by
  simp [Memory.entryValue, h]

@[simp] theorem Memory.entryValue_write_same (m : Memory) (i : Nat) (v : Sample) :
    Memory.entryValue (Memory.write m i v) i = v.toInt :=
  Memory.entryValue_of_read (Memory.read_write_same m i v)

theorem Memory.entryValue_write_other (m : Memory) {i j : Nat} (v : Sample) (h : j ≠ i) :
    Memory.entryValue (Memory.write m i v) j = Memory.entryValue m j := by
  simp only [Memory.entryValue, Memory.read_write_other m v h]

theorem Memory.abs_entryValue_le (m : Memory) (i : Nat) : |Memory.entryValue m i| ≤ 2 ^ 31 := by
  cases h : Memory.read m i with
  | none => simp [Memory.entryValue, h]
  | some v =>
    rw [Memory.entryValue_of_read h, abs_le]
    have hlo := BitVec.le_toInt v
    have hhi := BitVec.toInt_lt (x := v)
    omega

/-- The sum of the entries below an index. -/
def Memory.sumBelow (m : Memory) (n : Nat) : Int := ∑ i ∈ Finset.range n, Memory.entryValue m i

@[simp] theorem Memory.sumBelow_zero (m : Memory) : Memory.sumBelow m 0 = 0 := rfl

/-- The sum of the filled entries is the sum of the entries below `COUNT`. -/
theorem State.sampleSum_filled (s : State) : sampleSum s.filled = Memory.sumBelow s.buf s.count.toNat := by
  simp only [State.filled, Memory.sumBelow]
  induction s.count.toNat with
  | zero => rfl
  | succ n ih =>
    rw [Finset.sum_range_succ, ← ih, List.range_succ, List.filterMap_append]
    cases h : Memory.read s.buf n with
    | none => simp [sampleSum, Memory.entryValue, h]
    | some v => simp [sampleSum, Memory.entryValue, h]

/-- An entry stored behind the others is added to their sum. -/
theorem Memory.sumBelow_write_end (m : Memory) (n : Nat) (v : Sample) :
    Memory.sumBelow (Memory.write m n v) (n + 1) = Memory.sumBelow m n + v.toInt := by
  have hrest : ∀ i ∈ Finset.range n, Memory.entryValue (Memory.write m n v) i = Memory.entryValue m i :=
    fun i hi => Memory.entryValue_write_other m v (Finset.mem_range.mp hi).ne
  rw [Memory.sumBelow, Finset.sum_range_succ, Finset.sum_congr rfl hrest, Memory.entryValue_write_same,
    Memory.sumBelow]

/-- An entry stored in the place of another replaces it in the sum. -/
theorem Memory.sumBelow_write_of_lt (m : Memory) {i n : Nat} (v : Sample) (h : i < n) :
    Memory.sumBelow (Memory.write m i v) n = Memory.sumBelow m n - Memory.entryValue m i + v.toInt := by
  have hmem : i ∈ Finset.range n := Finset.mem_range.mpr h
  have hrest : ∀ j ∈ (Finset.range n).erase i, Memory.entryValue (Memory.write m i v) j = Memory.entryValue m j :=
    fun j hj => Memory.entryValue_write_other m v (Finset.ne_of_mem_erase hj)
  rw [Memory.sumBelow, Memory.sumBelow, ← Finset.sum_erase_add _ _ hmem, Finset.sum_congr rfl hrest,
    Memory.entryValue_write_same, ← Finset.sum_erase_add _ (Memory.entryValue m) hmem, add_sub_cancel_right]

/-- R28: `n` entries sum to at most `n · 2^31` in magnitude. -/
theorem Memory.abs_sumBelow_le (m : Memory) (n : Nat) : |Memory.sumBelow m n| ≤ n * 2 ^ 31 := by
  calc |Memory.sumBelow m n| ≤ ∑ i ∈ Finset.range n, |Memory.entryValue m i| := Finset.abs_sum_le_sum_abs _ _
    _ ≤ ∑ _i ∈ Finset.range n, (2 ^ 31 : Int) := Finset.sum_le_sum fun i _ => Memory.abs_entryValue_le m i
    _ = n * 2 ^ 31 := by simp

theorem sext48_toInt (v : Sample) : (sext48 v).toInt = v.toInt :=
  BitVec.toInt_signExtend_of_le (by decide)

/-- R28: a sum of 48 bits is the exact one where the exact one is at most `2^45` in magnitude. -/
theorem bmod_eq_of_abs_le {z : Int} (h : |z| ≤ 2 ^ 45) : z.bmod (2 ^ 48) = z := by
  rw [abs_le] at h
  exact Int.bmod_eq_of_le (by omega) (by omega)

/-- At most 16384 entries sum to a number that 48 bits hold. -/
theorem Memory.bmod_sumBelow (m : Memory) {n : Nat} (hn : n ≤ 16384) :
    (Memory.sumBelow m n).bmod (2 ^ 48) = Memory.sumBelow m n :=
  bmod_eq_of_abs_le ((Memory.abs_sumBelow_le m n).trans (by norm_cast; omega))

end Sys2Proof.Machine
end

section
/-! SUPPORT. The invariants of the block (spec 10_state.md rule R40): each kind of writes keeps them. -/

namespace Sys2Proof.Machine

variable {s t : State} {e : Input}

/-- The sum register holds the sum of the entries below `COUNT`. -/
theorem BlockInv.sum_toInt (h : BlockInv s) (hb : s.bufValid = true) :
    s.sum.toInt = Memory.sumBelow s.buf s.count.toNat :=
  (h.sumExact hb).trans s.sampleSum_filled

/-! ### The updates that do not touch the buffer -/

theorem BlockInv.withInputs (h : BlockInv s) (l : List Input) : BlockInv { s with inputs := l } := { h with }

theorem BlockInv.respond (h : BlockInv s) (st : BitVec 8) (d : Data) : BlockInv (s.respond st d) := { h with }

theorem BlockInv.finish (h : BlockInv s) (r : Except HostFault Data) : BlockInv (s.finish r) := by
  cases r with
  | ok d => exact h.respond _ _
  | error f => exact h.respond _ _

theorem BlockInv.afterXfer (h : BlockInv s) {n : Nat} (tx : Vector Byte n) (hn : n ≤ 6) :
    BlockInv (s.afterXfer tx hn) :=
  { h with traceBracketed := bracketed_append h.traceBracketed rfl }

/-- R40(f): the exchange of `WREG` stands in its bracket, and the pin is high again after it. -/
theorem BlockInv.bracketedXfer (h : BlockInv s) {n : Nat} (tx : Vector Byte n) (hn : n ≤ 6) :
    BlockInv (s.startLow.afterXfer tx hn).startHigh :=
  { h with
    startHigh := rfl
    traceBracketed := by
      simp only [State.startHigh_trace, State.afterXfer_trace, State.startLow_trace, List.append_assoc]
      exact bracketed_append h.traceBracketed rfl }

theorem BlockInv.openWindow (h : BlockInv s) : BlockInv s.openWindow := { h with }
theorem BlockInv.closeWindow (h : BlockInv s) : BlockInv s.closeWindow := { h with }
theorem BlockInv.countEdge (h : BlockInv s) : BlockInv s.countEdge := { h with }
theorem BlockInv.flagBusError (h : BlockInv s) : BlockInv s.flagBusError := { h with }
theorem BlockInv.clearSticky (h : BlockInv s) : BlockInv s.clearSticky := { h with }
theorem BlockInv.advanceTime (h : BlockInv s) : BlockInv s.advanceTime := { h with }

theorem BlockInv.latchSample (h : BlockInv s) (v : Sample) : BlockInv (s.latchSample v) :=
  { h with lastUnwritten := fun hv => by cases hv }

theorem BlockInv.latchEdge (h : BlockInv s) (hen : s.edgeEn = true) : BlockInv s.latchEdge :=
  { h with pendingEnabled := fun _ => hen }

theorem BlockInv.enable (h : BlockInv s) : BlockInv (s.setEdgeEn true) := { h with pendingEnabled := fun _ => rfl }

theorem BlockInv.clearPending (h : BlockInv s) : BlockInv s.clearPending :=
  { h with pendingEnabled := fun hp => by cases hp }

/-- R40(c): the interrupt is disabled with no edge left pending. -/
theorem BlockInv.disable (h : BlockInv s) : BlockInv (s.setEdgeEn false).clearPending :=
  { h with pendingEnabled := fun hp => by cases hp }

/-! ### The updates of the buffer -/

/-- `CAP` holds every capacity that `MAV_CREATE` installs (R26, R140). -/
theorem setWidth_toNat_of_le {cap : BitVec 32} (hle : cap.toNat ≤ 16384) :
    (cap.setWidth 15 : Capacity).toNat = cap.toNat := by
  rw [BitVec.toNat_setWidth, Nat.mod_eq_of_lt (by omega)]

theorem BlockInv.installBuffer (h : BlockInv s) {c : Capacity} (hpos : 1 ≤ c.toNat) (hle : c.toNat ≤ 16384) :
    BlockInv (s.installBuffer c) :=
  { h with
    capRange := fun _ => ⟨hpos, hle⟩
    countLe := fun _ => Nat.zero_le _
    headLt := fun _ => hpos
    headEqCount := fun _ _ => rfl
    sumExact := fun _ => rfl
    noBuffer := fun hb => by cases hb
    filledHoldValues := fun _ j hj => absurd hj (Nat.not_lt_zero j) }

theorem BlockInv.emptyBuffer (h : BlockInv s) (hb : s.bufValid = true) : BlockInv s.emptyBuffer :=
  { h with
    countLe := fun _ => Nat.zero_le _
    headLt := fun _ => (h.capRange hb).1
    headEqCount := fun _ _ => rfl
    sumExact := fun _ => rfl
    noBuffer := fun hn => absurd (hb.symm.trans hn) (by decide)
    filledHoldValues := fun _ j hj => absurd hj (Nat.not_lt_zero j) }

/-- The next index lies below the capacity, and 14 bits hold it. -/
theorem nextIndex_toNat (head : BufIndex) {cap : Capacity} (hpos : 1 ≤ cap.toNat) (hle : cap.toNat ≤ 16384) :
    (nextIndex head cap).toNat = (head.toNat + 1) % cap.toNat := by
  have hlt : (head.toNat + 1) % cap.toNat < cap.toNat := Nat.mod_lt _ hpos
  rw [nextIndex, BitVec.toNat_ofNat, Nat.mod_eq_of_lt (by omega)]

/-- A store keeps the invariants when the number of entries after it fits, the entries it counts are the one at
`HEAD` and filled ones, and the sum it writes is the exact one up to the 48 bits of the register. -/
theorem BlockInv.storeSample (h : BlockInv s) (hb : s.bufValid = true) {v : Sample} {base : RunningSum} {c : Capacity}
    (hcount : c.toNat ≤ s.cap.toNat) (hhead : c.toNat < s.cap.toNat → c.toNat = s.head.toNat + 1)
    (hfilled : ∀ j < c.toNat, j ≠ s.head.toNat → j < s.count.toNat)
    (hsum : (base.toInt + v.toInt).bmod (2 ^ 48) =
      (Memory.sumBelow (Memory.write s.buf s.head.toNat v) c.toNat).bmod (2 ^ 48)) :
    BlockInv (s.storeSample v base c) := by
  obtain ⟨hpos, hle⟩ := h.capRange hb
  have hnext := nextIndex_toNat s.head hpos hle
  refine { h with
    countLe := fun _ => hcount
    headLt := fun _ => ?_
    headEqCount := fun _ hlt => ?_
    sumExact := fun _ => ?_
    noBuffer := fun hn => absurd (hb.symm.trans hn) (by decide)
    filledHoldValues := fun _ j hj => ?_
    bufCanonical := Memory.wf_write v s.head.isLt h.bufCanonical }
  · rw [State.storeSample_head, State.storeSample_cap, hnext]
    exact Nat.mod_lt _ hpos
  · rw [State.storeSample_count, State.storeSample_cap] at hlt
    rw [State.storeSample_head, State.storeSample_count, hnext, ← hhead hlt, Nat.mod_eq_of_lt hlt]
  · rw [State.sampleSum_filled, State.storeSample_buf, State.storeSample_count, State.storeSample_sum,
      BitVec.toInt_add, sext48_toInt, hsum, Memory.bmod_sumBelow _ (hcount.trans hle)]
  · rw [State.storeSample_read]
    split
    · exact ⟨v, rfl⟩
    · exact h.filledHoldValues hb j (hfilled j hj ‹_›)

/-- R141 keeps R40: a push onto a buffer with room adds to the sum, one onto a full buffer replaces the oldest
entry in it. -/
theorem BlockInv.mavAdd (h : BlockInv s) (hb : s.bufValid = true) {v : Sample} (ht : s.mavAdd v = .next t) :
    BlockInv t := by
  obtain ⟨hpos, hle⟩ := h.capRange hb
  have hcount := h.countLe hb
  have hhead := h.headLt hb
  obtain ⟨hroom, rfl⟩ | ⟨old, hfull, hold, rfl⟩ := State.mavAdd_next ht
  · have hlt : s.count.toNat < s.cap.toNat := hcount.lt_of_ne fun heq => hroom (BitVec.eq_of_toNat_eq heq)
    have hheadCount := h.headEqCount hb hlt
    have hsucc : (s.count + 1).toNat = s.head.toNat + 1 := by bv_omega
    refine h.storeSample hb (by omega) (fun _ => hsucc) (fun j hj hne => by omega) ?_
    rw [hsucc, Memory.sumBelow_write_end, h.sum_toInt hb, hheadCount]
  · have hfull : s.count.toNat = s.cap.toNat := congrArg BitVec.toNat hfull
    refine h.storeSample hb hcount (fun hlt => by omega) (fun j hj _ => hj) ?_
    rw [Memory.sumBelow_write_of_lt _ _ (by omega), ← h.sum_toInt hb, Memory.entryValue_of_read hold,
      BitVec.toInt_sub, sext48_toInt]
    exact Int.bmod_add_bmod

/-! ### The step -/

/-- Whatever an input does, it keeps the invariants. -/
theorem BlockInv.of_effect (h : BlockInv s) (heff : InputEffect s e t) : BlockInv t := by
  cases heff with
  | respond st d => exact h.respond st d
  | exchange tx hn r => exact (h.afterXfer tx hn).finish r
  | writeRegister _ tx hn r => exact (h.bracketedXfer tx hn).finish r
  | install _ hpos hle =>
    have hcap := setWidth_toNat_of_le hle
    exact (h.installBuffer (hcap ▸ hpos) (hcap ▸ hle)).respond _ _
  | push hb hm => exact (h.mavAdd hb hm).respond _ _
  | empty hb => exact (h.emptyBuffer hb).respond _ _
  | openWindow => exact h.openWindow.respond _ _
  | closeWindow => exact h.closeWindow.respond _ _
  | clearSticky => exact h.clearSticky.respond _ _
  | enable => exact h.enable.respond _ _
  | disable => exact h.disable.respond _ _
  | ignoreEdge => exact h
  | latchEdge hen => exact h.latchEdge hen
  | countEdge => exact h.clearPending.countEdge
  | failedRead => exact (h.clearPending.closeWindow.afterXfer _ _).flagBusError
  | latchSample v => exact (h.clearPending.closeWindow.afterXfer _ _).latchSample v
  | latchAndPush hb hm => exact ((h.clearPending.closeWindow.afterXfer _ _).latchSample _).mavAdd hb hm
  | tick => exact h.advanceTime

theorem BlockInv.perform (h : BlockInv s) (ht : perform e s = .next t) : BlockInv t :=
  h.of_effect (perform_effect ht)

/-- Settles O45: a step changes nothing or performs one input, and every kind of writes keeps the invariants. -/
theorem everyStepKeepsTheInvariants : Obligations.EveryStepKeepsTheInvariants := by
  intro s t h hstep
  obtain ⟨-, rfl⟩ | ⟨e, rest, -, hperform⟩ := step_next hstep
  · exact h
  · exact (h.withInputs rest).perform hperform

/-- Settles O44: after reset there is no buffer, no event and no pending edge. -/
theorem resetKeepsTheInvariants : Obligations.ResetKeepsTheInvariants := by
  have hreset : ∀ (p : Params) (now : Ticks), BlockInv (State.resetWith p now) := fun p now =>
    { startHigh := rfl
      capRange := fun hb => by cases hb
      countLe := fun hb => by cases hb
      headLt := fun hb => by cases hb
      headEqCount := fun hb => by cases hb
      sumExact := fun hb => by cases hb
      pendingEnabled := fun hp => by cases hp
      lastUnwritten := fun _ => rfl
      noBuffer := fun _ => ⟨rfl, rfl, rfl, rfl⟩
      traceBracketed := rfl
      filledHoldValues := fun hb => by cases hb
      bufCanonical := resetWith_buf_wf p now }
  exact ⟨hreset, hreset _ _⟩

/-! ### What the invariants give -/

/-- Settles O23: with a buffer the register holds the exact sum of `COUNT` entries of 32 bits, without one both are
0. -/
theorem sumNeverWraps : Obligations.SumNeverWraps := by
  intro s h
  cases hb : s.bufValid with
  | false =>
    obtain ⟨-, hcount, -, hsum⟩ := h.noBuffer hb
    simp [hcount, hsum]
  | true =>
    have hbound := Memory.abs_sumBelow_le s.buf s.count.toNat
    rw [← h.sum_toInt hb, abs_le] at hbound
    have hcount := h.countLe hb
    obtain ⟨-, hcap⟩ := h.capRange hb
    exact ⟨hbound.2, hbound.1, by omega⟩

/-- `MavAdd` stops exactly when it evicts an entry that holds no value. -/
theorem State.mavAdd_eq_fault_iff {v : Sample} :
    s.mavAdd v = .fault .unfilledEntryRead ↔ s.count = s.cap ∧ Memory.read s.buf s.head.toNat = none := by
  unfold State.mavAdd
  split
  · next hfull =>
    split
    · next old hold => simp [hold]
    · next hnone => simp [hfull, hnone]
  · next hroom => simp [hroom]

@[simp] theorem andThen_eq_fault {o : Host.Outcome State Fault Refusal} {f : State → State} {r : Fault} :
    andThen o f = .fault r ↔ o = .fault r := by
  cases o <;> simp [andThen]

/-- `MAV_ADD` stops exactly when there is a buffer and its push stops. -/
theorem execMavAdd_eq_fault_iff {v : Sample} :
    execMavAdd v s = .fault .unfilledEntryRead ↔ s.bufValid = true ∧ s.mavAdd v = .fault .unfilledEntryRead := by
  unfold execMavAdd
  split
  · next hb => simp [hb]
  · next hb => simp [hb]

/-- R29: the entry at `HEAD` of a full buffer holds a value. -/
theorem BlockInv.read_head_ne_none (h : BlockInv s) (hb : s.bufValid = true) (hfull : s.count = s.cap) :
    Memory.read s.buf s.head.toNat ≠ none := by
  obtain ⟨v, hv⟩ := h.filledHoldValues hb s.head.toNat (hfull ▸ h.headLt hb)
  simp [hv]

/-- Settles O17: the push stops where the entry at `HEAD` of a full buffer holds no value, and under the invariants
that entry is a filled one. -/
theorem evictingAnUnfilledEntryStops : Obligations.EvictingAnUnfilledEntryStops := by
  intro v s
  constructor
  · intro hb hfull hnone
    exact execMavAdd_eq_fault_iff.mpr ⟨hb, State.mavAdd_eq_fault_iff.mpr ⟨hfull, hnone⟩⟩
  · intro hfault h
    obtain ⟨hb, hpush⟩ := execMavAdd_eq_fault_iff.mp hfault
    obtain ⟨hfull, hnone⟩ := State.mavAdd_eq_fault_iff.mp hpush
    exact h.read_head_ne_none hb hfull hnone

end Sys2Proof.Machine
end

section
/-! SUPPORT. A word placed for the next step (spec 10_state.md rule R24). -/

namespace Sys2Proof.Machine

/-- A number that decodes as the opcode table numbers words is a command word, and that word decodes. -/
theorem exists_of_decodeTableWord {nbits w : Nat} {i : Instr} (h : decodeTableWord nbits w = some i) :
    ∃ v, tableCommandWord nbits w = some v ∧ decode v = .ok i := by
  unfold decodeTableWord at h
  split at h
  · next v hv =>
    refine ⟨v, hv, ?_⟩
    cases hd : decode v with
    | ok j => simpa [hd, Except.toOption] using h
    | error f => simp [hd, Except.toOption] at h
  · cases h

theorem State.withFetchWord_of_some {s : State} {nbits w : Nat} {v : CommandWord}
    (h : tableCommandWord nbits w = some v) :
    s.withFetchWord nbits w = { s with inputs := .command v :: s.inputs } := by
  simp [State.withFetchWord, h]

/-- Settles O7: the placed word comes first in the schedule, and taking it gives the state back. -/
theorem placedWordRunsNext : Obligations.PlacedWordRunsNext := by
  intro s nbits w i h
  obtain ⟨v, hv, hdecode⟩ := exists_of_decodeTableWord h
  rw [State.withFetchWord_of_some hv]
  exact stepRunsTheDecodedCommand _ v s.inputs i rfl hdecode

end Sys2Proof.Machine
end

section
/-! SUPPORT. The events of the schedule (spec 43_acquisition.md rules R160 to R162, 20_memory.md rule R70). -/

namespace Sys2Proof.Machine

/-- Settles O6: the step performs its next input, and performing an event is that event's meaning. -/
theorem stepRunsTheNextEvent : Obligations.StepRunsTheNextEvent :=
  ⟨fun _ _ hedge => step_of_input hedge, fun _ _ hservice => step_of_input hservice,
    fun _ _ htick => step_of_input htick, fun _ hnone => step_of_no_input hnone⟩

end Sys2Proof.Machine
end

section
/-! SUPPORT. The end of a window under a fair schedule (spec 20_memory.md rule R70, 10_state.md rule R31): inside the
window the elapsed ticks grow at each tick and never wrap, and they stay below the length of the window. -/

namespace Sys2Proof.Machine

/-- The ticks since the window was opened, as `in_window` counts them: the difference is modulo 2^32 (R31). -/
def State.elapsed (s : State) : Nat := (s.time - s.windowStart).toNat

theorem State.elapsed_lt_of_inWindow {s : State} (h : s.inWindow = true) : s.elapsed < s.params.windowTicks.toNat := by
  obtain ⟨-, hlt⟩ := State.inWindow_iff.mp h
  exact BitVec.lt_def.mp hlt

/-- A tick inside the window is counted without wrap-around. -/
theorem State.elapsed_advanceTime {s : State} (h : s.inWindow = true) : s.advanceTime.elapsed = s.elapsed + 1 := by
  have hlt := State.elapsed_lt_of_inWindow h
  have hlen := s.params.windowTicks.isLt
  simp only [State.elapsed, State.advanceTime_time, State.advanceTime_windowStart] at hlt ⊢
  bv_omega

/-- A step that is neither a tick nor a `WIN_OPEN` leaves the elapsed ticks as they are. -/
theorem elapsed_perform_of_ne_tick {e : Input} {s t : State} (h : perform e s = .next t)
    (hopen : ∀ w, e = .command w → decode w ≠ .ok .winOpen) (htick : e ≠ .tick) : t.elapsed = s.elapsed := by
  obtain ⟨-, htime⟩ := onlyTicksChangeTime e s t h
  obtain ⟨hstart, -, -⟩ := windowRegistersHaveTheirWriters e s t h hopen
  simp only [State.elapsed, htime htick, hstart]

/-- No step of a run changes the parameters (R5). -/
theorem Execution.params_eq (e : Execution) {n m : Nat} (hm : n ≤ m) : (e.state m).params = (e.state n).params := by
  induction m, hm using Nat.le_induction with
  | base => rfl
  | succ m _ ih =>
    obtain ⟨hparams, -⟩ := onlyTicksChangeTime _ _ _ (e.follows m)
    exact hparams.trans ih

section
variable {e : Execution} {n : Nat} (hwin : ∀ m, n ≤ m → (e.state m).inWindow = true)
  (hopen : ∀ m w, n ≤ m → e.event m = .command w → decode w ≠ .ok .winOpen)
include hwin

theorem Execution.elapsed_succ_of_tick {m : Nat} (hm : n ≤ m) (htick : e.event m = .tick) :
    (e.state (m + 1)).elapsed = (e.state m).elapsed + 1 := by
  have hstep := e.follows m
  rw [htick] at hstep
  rw [← Host.Outcome.next.inj hstep]
  exact State.elapsed_advanceTime (hwin m hm)

include hopen

theorem Execution.elapsed_le_succ {m : Nat} (hm : n ≤ m) : (e.state m).elapsed ≤ (e.state (m + 1)).elapsed := by
  by_cases htick : e.event m = .tick
  · exact (Execution.elapsed_succ_of_tick hwin hm htick).symm ▸ Nat.le_succ _
  · exact (elapsed_perform_of_ne_tick (e.follows m) (fun w => hopen m w hm) htick).ge

theorem Execution.elapsed_mono {m k : Nat} (hm : n ≤ m) (hk : m ≤ k) : (e.state m).elapsed ≤ (e.state k).elapsed := by
  induction k, hk using Nat.le_induction with
  | base => exact Nat.le_refl _
  | succ k hk ih => exact ih.trans (Execution.elapsed_le_succ hwin hopen (hm.trans hk))

/-- A fair run that stays inside the window reaches every number of elapsed ticks. -/
theorem Execution.exists_le_elapsed (hfair : e.Fair) (k : Nat) : ∃ m, n ≤ m ∧ k ≤ (e.state m).elapsed := by
  induction k with
  | zero => exact ⟨n, Nat.le_refl n, Nat.zero_le _⟩
  | succ k ih =>
    obtain ⟨m, hm, hk⟩ := ih
    obtain ⟨-, hticks⟩ := hfair
    obtain ⟨j, hj, htick⟩ := hticks m
    have hmono := Execution.elapsed_mono hwin hopen hm hj
    have hsucc := Execution.elapsed_succ_of_tick hwin (hm.trans hj) htick
    exact ⟨j + 1, by omega, by omega⟩

end

/-- Settles O42: a run that never left the window would come to as many elapsed ticks as the window is long. -/
theorem fairTicksEndEveryWindow : Obligations.FairTicksEndEveryWindow := by
  intro e n hfair hopen
  by_contra hnever
  have hwin : ∀ m, n ≤ m → (e.state m).inWindow = true := by simpa using hnever
  obtain ⟨m, hm, hreached⟩ := Execution.exists_le_elapsed hwin hopen hfair (e.state n).params.windowTicks.toNat
  have hlt := State.elapsed_lt_of_inWindow (hwin m hm)
  rw [e.params_eq hm] at hlt
  exact Nat.not_lt.mpr hreached hlt

end Sys2Proof.Machine
end

section
/-! SUPPORT. The field functions on a register byte (spec 44_config_accessors.md rule R195): reading a field gives what
was put into it, and putting a value into it leaves the other bits. -/

namespace Sys2Proof.Machine

/-- A value put into bits that the mask clears is read back from them. -/
theorem extractLsb'_and_or_shiftLeft {n i : Nat} (b mask : Byte) (v : BitVec n) (hfit : i + n ≤ 8)
    (hmask : mask.extractLsb' i n = 0) : ((b &&& mask) ||| (v.setWidth 8 <<< i)).extractLsb' i n = v := by
  rw [BitVec.extractLsb'_or, BitVec.extractLsb'_and, hmask]
  apply BitVec.eq_of_getLsbD_eq
  intro k hk
  have hbit : i + k < 8 := by omega
  simp [hk, hbit]

/-- A value put outside the bits that the mask keeps leaves them as they are. -/
theorem and_or_and_mask (b mask : Byte) {x : Byte} (hx : x &&& mask = 0) : ((b &&& mask) ||| x) &&& mask = b &&& mask := by
  rw [BitVec.and_or_distrib_right, BitVec.and_assoc, BitVec.and_self, hx]
  exact BitVec.or_zero

@[simp] theorem modeGet_modeSet (b : Byte) (m : BitVec 2) : modeGet (modeSet b m) = m :=
  extractLsb'_and_or_shiftLeft b 0x9F m (by decide) (by decide)

theorem modeSet_and_mask (b : Byte) (m : BitVec 2) : modeSet b m &&& 0x9F#8 = b &&& 0x9F#8 :=
  and_or_and_mask b 0x9F (by revert m; decide)

theorem validCode_of_mem {valid : List (BitVec 4)} {c : BitVec 4} (h : c ∈ valid) : validCode valid c = some c := by
  simp [validCode, h]

theorem rateGet_rateSet {p : Params} {c : BitVec 4} (h : c ∈ p.drValid) (b : Byte) : rateGet p (rateSet b c) = some c := by
  have hfield : (rateSet b c).extractLsb' 3 4 = c := extractLsb'_and_or_shiftLeft b 0x87 c (by decide) (by decide)
  rw [rateGet, hfield, validCode_of_mem h]

theorem rateSet_and_mask (b : Byte) (c : BitVec 4) : rateSet b c &&& 0x87#8 = b &&& 0x87#8 :=
  and_or_and_mask b 0x87 (by revert c; decide)

theorem muxPack_eq_append (pos neg : BitVec 4) : muxPack pos neg = pos ++ neg := by
  revert pos neg
  decide

theorem muxUnpack_muxPack {p : Params} {pos neg : BitVec 4} (hpos : pos ∈ p.muxValid) (hneg : neg ∈ p.muxValid) :
    muxUnpack p (muxPack pos neg) = (some pos, some neg) := by
  rw [muxUnpack, muxPack_eq_append, BitVec.extractLsb'_append_eq_left, BitVec.extractLsb'_append_eq_right,
    validCode_of_mem hpos, validCode_of_mem hneg]

theorem Sequence.setRate_of_mem {p : Params} {c : BitVec 4} (h : c ∈ p.drValid) :
    Sequence.setRate p (some c) = .setRateRead c := by
  simp [Sequence.setRate, validCode_of_mem h]

theorem Sequence.setMux_of_mem {p : Params} {pos neg : BitVec 4} (hpos : pos ∈ p.muxValid) (hneg : neg ∈ p.muxValid) :
    Sequence.setMux p (some pos) (some neg) = .setMuxWrite (muxPack pos neg) := by
  simp [Sequence.setMux, validCode_of_mem hpos, validCode_of_mem hneg]

end Sys2Proof.Machine
end

section
/-! SUPPORT. One command on the bench (spec 95_test_vectors.md section 4) when no exchange fails: a register read gives
the host the fixture's byte, a register write puts its byte there. -/

namespace Sys2Proof.Machine

variable {s : State} {a : Answer} {addr : RegAddr} {value : Byte}

/-- A register read with a successful answer at hand responds with the answer's third byte (R120). -/
theorem exec_rreg_of_answer (hok : a.ok = true) (ha : s.answers = [a]) :
    exec (.rreg addr) s = .next ((s.afterXfer (readFrame s.params addr)).respond 0x00 (a.bytes[2].setWidth 64)) := by
  have hanswer (tx : List Byte) : s.deviceAnswer tx = a := by simp [State.deviceAnswer, ha]
  have hresult := State.xferResult_of_ok (s := s) (tx := readFrame s.params addr) (by decide)
    (by simp [State.exchangeOk, hanswer, hok])
  simp [exec, execRreg, hresult, hanswer]

/-- A register write with a successful answer at hand responds with 0 (R121). -/
theorem exec_wreg_of_answer (hok : a.ok = true) (ha : s.answers = [a]) :
    exec (.wreg addr value) s =
      .next ((s.startLow.afterXfer (writeFrame s.params addr value)).startHigh.respond 0x00 0) := by
  have hanswer (tx : List Byte) : s.startLow.deviceAnswer tx = a := by simp [State.deviceAnswer, ha]
  have hresult := State.xferResult_of_ok (s := s.startLow) (tx := writeFrame s.params addr value) (by decide)
    (by simp [State.exchangeOk, hanswer, hok])
  simp [exec, execWreg, hresult]

/-- The response that ends a command is the one the sequence goes on with. -/
theorem Session.afterCommand_respond (q : Sequence) (t : State) (st : BitVec 8) (data : Data) :
    Session.afterCommand q (t.respond st data) = ⟨t.respond st data, q.resume t.params ⟨st, data⟩⟩ := by
  simp [Session.afterCommand]

variable {q : Sequence} {d : RefDevice}

/-- A turn of the bench lays the fixture's answer ready and runs the command on it. -/
theorem Bench.hostTurn_of_answer {i : Instr} {d' : RefDevice} {t : State} {st : BitVec 8} {data : Data}
    (hc : q.command s.params = some i) (ha : d.answer i = some (a, d'))
    (he : exec i { s with answers := [a] } = .next (t.respond st data)) :
    (Bench.mk ⟨s, q⟩ d).hostTurn = .next ⟨⟨t.respond st data, q.resume t.params ⟨st, data⟩⟩, d'⟩ := by
  have hturn := Session.turn_host (x := ⟨{ s with answers := [a] }, q⟩) hc he
  rw [Session.afterCommand_respond] at hturn
  simp [Bench.hostTurn, hc, ha, hturn]

/-- The fixture answers a register read with the register's byte, third in the frame. -/
theorem RefDevice.answer_rreg (hf : d.failing = []) :
    d.answer (.rreg addr) =
      some (⟨true, #v[0xFF, 0x20 + addr.setWidth 8, d.regs[addr.toFin], 0, 0, 0]⟩, { d with next := d.next + 1 }) := by
  simp [RefDevice.answer, hf]

/-- The fixture takes the byte of a register write into the register. -/
theorem RefDevice.answer_wreg (hf : d.failing = []) :
    d.answer (.wreg addr value) =
      some (⟨true, #v[0xFF, 0x40 + addr.setWidth 8, 0, 0, 0, 0]⟩,
        { d with regs := d.regs.set addr.toNat value addr.isLt, next := d.next + 1 }) := by
  simp [RefDevice.answer, hf]

/-- A register read on the bench. -/
theorem Bench.hostTurn_read (hf : d.failing = []) (hc : q.command s.params = some (.rreg addr)) :
    ∃ t : State, t.params = s.params ∧ (Bench.mk ⟨s, q⟩ d).hostTurn =
      .next ⟨⟨t, q.resume s.params ⟨0x00, d.regs[addr.toFin].setWidth 64⟩⟩, { d with next := d.next + 1 }⟩ := by
  have hturn := Bench.hostTurn_of_answer hc (RefDevice.answer_rreg hf) (exec_rreg_of_answer rfl rfl)
  exact ⟨_, by rfl, hturn⟩

/-- A register write on the bench. -/
theorem Bench.hostTurn_write (hf : d.failing = []) (hc : q.command s.params = some (.wreg addr value)) :
    ∃ t : State, t.params = s.params ∧ (Bench.mk ⟨s, q⟩ d).hostTurn = .next ⟨⟨t, q.resume s.params ⟨0x00, 0⟩⟩,
      { d with regs := d.regs.set addr.toNat value addr.isLt, next := d.next + 1 }⟩ := by
  have hturn := Bench.hostTurn_of_answer hc (RefDevice.answer_wreg hf) (exec_wreg_of_answer rfl rfl)
  exact ⟨_, by rfl, hturn⟩

theorem Bench.run_succ {n : Nat} {b c : Bench} (h : b.hostTurn = .next c) : b.run (n + 1) = c.run n := by
  simp [Bench.run, h]

end Sys2Proof.Machine
end

section
/-! SUPPORT. A setter and then its getter on the bench (spec 95_test_vectors.md E3, E4, E7): the setter leaves the byte
it computed in its register, and the getter decodes the byte it finds there. -/

namespace Sys2Proof.Machine

section
variable (p : Params) (b : Byte)

@[simp] theorem Response.orFail_ok (data : Data) (next : Sequence) : Response.orFail ⟨0x00, data⟩ next = next := rfl

@[simp] theorem Response.byte_setWidth (st : BitVec 8) : Response.byte ⟨st, b.setWidth 64⟩ = b := by
  simp [Response.byte]

theorem Sequence.resume_setModeRead_ok (m : BitVec 2) :
    Sequence.resume p (.setModeRead m) ⟨0x00, b.setWidth 64⟩ = .setModeWrite (modeSet b m) := by
  rw [Sequence.resume, Response.orFail_ok, Response.byte_setWidth]

theorem Sequence.resume_setRateRead_ok (c : BitVec 4) :
    Sequence.resume p (.setRateRead c) ⟨0x00, b.setWidth 64⟩ = .setRateWrite (rateSet b c) := by
  rw [Sequence.resume, Response.orFail_ok, Response.byte_setWidth]

theorem Sequence.resume_getMode_ok :
    Sequence.resume p .getMode ⟨0x00, b.setWidth 64⟩ = .finished (.mode (modeGet b)) := by
  rw [Sequence.resume, Response.orFail_ok, Response.byte_setWidth]

theorem Sequence.resume_getRate_ok :
    Sequence.resume p .getRate ⟨0x00, b.setWidth 64⟩ = .finished (.rate (rateGet p b)) := by
  rw [Sequence.resume, Response.orFail_ok, Response.byte_setWidth]

theorem Sequence.resume_getMux_ok :
    Sequence.resume p .getMux ⟨0x00, b.setWidth 64⟩ = .finished (muxResult p b) := by
  rw [Sequence.resume, Response.orFail_ok, Response.byte_setWidth]

end

/-- A bench whose host has finished a setter that left the byte `value` in the register `addr`. -/
structure Bench.HasSet (b : Bench) (p : Params) (addr : RegAddr) (value : Byte) : Prop where
  done : b.session.host = .finished .done
  params : b.session.block.params = p
  failing : b.device.failing = []
  reg : b.device.regs[addr.toFin] = value

variable {s : State} {q w : Sequence} {d : RefDevice} {addr : RegAddr} {value : Byte}

/-- A setter that is one write. -/
theorem Bench.exists_hasSet_of_write (hf : d.failing = []) (hw : w.command s.params = some (.wreg addr value))
    (hdone : w.resume s.params ⟨0x00, 0⟩ = .finished .done) :
    ∃ b, (Bench.mk ⟨s, w⟩ d).run 1 = .next b ∧ b.HasSet s.params addr value := by
  obtain ⟨t, ht, hwrite⟩ := Bench.hostTurn_write hf hw
  exact ⟨_, Bench.run_succ hwrite, hdone, ht, hf, by simp⟩

/-- A setter that reads its register and writes back what it makes of the byte (R197, R199). -/
theorem Bench.exists_hasSet_of_readModifyWrite (hf : d.failing = []) (hq : q.command s.params = some (.rreg addr))
    (hqw : q.resume s.params ⟨0x00, d.regs[addr.toFin].setWidth 64⟩ = w)
    (hw : w.command s.params = some (.wreg addr value)) (hdone : w.resume s.params ⟨0x00, 0⟩ = .finished .done) :
    ∃ b, (Bench.mk ⟨s, q⟩ d).run 2 = .next b ∧ b.HasSet s.params addr value := by
  obtain ⟨t, ht, hread⟩ := Bench.hostTurn_read hf hq
  rw [← ht] at hw hdone ⊢
  rw [Bench.run_succ hread, hqw]
  exact Bench.exists_hasSet_of_write hf hw hdone

/-- A getter after the setter of its register. -/
theorem Bench.HasSet.exists_get {b : Bench} {p : Params} (h : b.HasSet p addr value)
    (hq : q.command p = some (.rreg addr)) :
    ∃ c, (b.start q).run 1 = .next c ∧ c.session.host = q.resume p ⟨0x00, value.setWidth 64⟩ ∧
      c.device.regs[addr.toFin] = value := by
  obtain ⟨-, rfl, hf, rfl⟩ := h
  obtain ⟨t, -, hread⟩ := Bench.hostTurn_read hf hq
  exact ⟨_, Bench.run_succ hread, rfl, rfl⟩

/-- Settles O56: each setter leaves the byte with the new field in its register, and its getter reads that field. -/
theorem referenceDeviceRoundTrips : Obligations.ReferenceDeviceRoundTrips := by
  intro s d hf
  refine ⟨fun m => ?_, fun k hk => ?_, fun pos hpos neg hneg => ?_⟩
  · obtain ⟨b, hset, hb⟩ := Bench.exists_hasSet_of_readModifyWrite (s := s) (q := .setMode s.params m) hf rfl
      (Sequence.resume_setModeRead_ok _ _ _) rfl rfl
    obtain ⟨c, hget, hhost, hreg⟩ := hb.exists_get (q := .getMode) rfl
    rw [Sequence.resume_getMode_ok, modeGet_modeSet] at hhost
    exact ⟨b, c, hset, hb.done, hget, hhost, hreg ▸ modeSet_and_mask _ _⟩
  · rw [Sequence.setRate_of_mem hk]
    obtain ⟨b, hset, hb⟩ := Bench.exists_hasSet_of_readModifyWrite (s := s) (q := .setRateRead k) hf rfl
      (Sequence.resume_setRateRead_ok _ _ _) rfl rfl
    obtain ⟨c, hget, hhost, hreg⟩ := hb.exists_get (q := .getRate) rfl
    rw [Sequence.resume_getRate_ok, rateGet_rateSet hk] at hhost
    exact ⟨b, c, hset, hb.done, hget, hhost, hreg ▸ rateSet_and_mask _ _⟩
  · rw [Sequence.setMux_of_mem hpos hneg]
    obtain ⟨b, hset, hb⟩ := Bench.exists_hasSet_of_write (s := s) (w := .setMuxWrite (muxPack pos neg)) hf rfl rfl
    obtain ⟨c, hget, hhost, -⟩ := hb.exists_get (q := .getMux) rfl
    rw [Sequence.resume_getMux_ok, muxResult, muxUnpack_muxPack hpos hneg] at hhost
    exact ⟨b, c, hset, hb.done, hget, hhost⟩

end Sys2Proof.Machine
end

section
/-! SUPPORT. The decoder and the encoder are inverse to each other (spec 30_encoding.md rules R90 to R93, R96): a word
is its `op` byte and its `arg`, and each branch of the decoder accepts exactly the words the encoder builds for it. -/

namespace Sys2Proof

variable {w : CommandWord} {i : Instr}

theorem opField_eq_prefixField_append_addrField (w : CommandWord) : opField w = prefixField w ++ addrField w :=
  (BitVec.extractLsb'_append_extractLsb'_eq_extractLsb' (start₁ := 32) (len₁ := 5) rfl).symm

theorem argField_eq_writeHighField_append_valueField (w : CommandWord) :
    argField w = writeHighField w ++ valueField w :=
  (BitVec.extractLsb'_append_extractLsb'_eq_extractLsb' (start₁ := 0) (len₁ := 8) rfl).symm

/-! ### The parts of an `op` byte and of an `arg` as the encoder joins them -/

@[simp] theorem extractLsb'_append_op_prefix (pre : BitVec 3) (addr : RegAddr) :
    (pre ++ addr : Byte).extractLsb' 5 3 = pre :=
  BitVec.extractLsb'_append_eq_left

@[simp] theorem extractLsb'_append_op_addr (pre : BitVec 3) (addr : RegAddr) :
    (pre ++ addr : Byte).extractLsb' 0 5 = addr :=
  BitVec.extractLsb'_append_eq_right

@[simp] theorem extractLsb'_append_arg_high (high : BitVec 24) (value : Byte) :
    (high ++ value : BitVec 32).extractLsb' 8 24 = high :=
  BitVec.extractLsb'_append_eq_left

@[simp] theorem extractLsb'_append_arg_value (high : BitVec 24) (value : Byte) :
    (high ++ value : BitVec 32).extractLsb' 0 8 = value :=
  BitVec.extractLsb'_append_eq_right

/-! ### The words of each format -/

theorem eq_commandWord_iff {op : Byte} {arg : BitVec 32} :
    w = commandWord op arg ↔ opField w = op ∧ argField w = arg := by
  constructor
  · rintro rfl
    simp
  · rintro ⟨rfl, rfl⟩
    exact (commandWord_fields w).symm

/-- The format-N commands are the pairs of the table, by their `op` byte. -/
theorem decodeNoOperand_eq_ok {op : Byte} {arg : BitVec 32} (h : decodeNoOperand op arg = .ok i) :
    (op, i) ∈ noOperandOps ∧ arg = 0 := by
  unfold decodeNoOperand at h
  split at h
  · next j hj =>
    split at h
    · next harg =>
      cases h
      obtain ⟨l, l', hl, -⟩ := List.lookup_eq_some_iff.mp hj
      exact ⟨by rw [hl]; simp, harg⟩
    · cases h
  · cases h

/-- Everything a word that decodes can be: one case for each format, the two format-I commands apart (R91). -/
theorem decode_eq_ok (h : decode w = .ok i) :
    (prefixField w = 0b001 ∧ argField w = 0 ∧ i = .rreg (addrField w)) ∨
      (prefixField w = 0b010 ∧ writeHighField w = 0 ∧ i = .wreg (addrField w) (valueField w)) ∨
      (opField w = 0x80 ∧ i = .mavCreate (argField w)) ∨ (opField w = 0x81 ∧ i = .mavAdd (argField w)) ∨
      ((opField w, i) ∈ noOperandOps ∧ argField w = 0) := by
  unfold decode at h
  split at h
  · next hprefix =>
    split at h
    · next harg => cases h; exact .inl ⟨hprefix, harg, rfl⟩
    · cases h
  · split at h
    · next hprefix =>
      split at h
      · next hhigh => cases h; exact .inr (.inl ⟨hprefix, hhigh, rfl⟩)
      · cases h
    · split at h
      · next hop => cases h; exact .inr (.inr (.inl ⟨hop, rfl⟩))
      · split at h
        · next hop => cases h; exact .inr (.inr (.inr (.inl ⟨hop, rfl⟩)))
        · exact .inr (.inr (.inr (.inr (decodeNoOperand_eq_ok h))))

/-- A format-N command is encoded as its `op` byte with `arg = 0`. -/
theorem encode_of_mem_noOperandOps : ∀ c ∈ noOperandOps, encode c.2 = commandWord c.1 0 := by decide

/-- In the formats with operands a word's fields say which encoded word it is; here format R. -/
theorem eq_encode_rreg (hprefix : prefixField w = 0b001) (harg : argField w = 0) :
    w = encode (.rreg (addrField w)) :=
  eq_commandWord_iff.mpr ⟨hprefix ▸ opField_eq_prefixField_append_addrField w, harg⟩

theorem eq_encode_wreg (hprefix : prefixField w = 0b010) (hhigh : writeHighField w = 0) :
    w = encode (.wreg (addrField w) (valueField w)) :=
  eq_commandWord_iff.mpr ⟨hprefix ▸ opField_eq_prefixField_append_addrField w,
    hhigh ▸ argField_eq_writeHighField_append_valueField w⟩

theorem eq_encode_mavCreate (hop : opField w = 0x80) : w = encode (.mavCreate (argField w)) :=
  eq_commandWord_iff.mpr ⟨hop, rfl⟩

theorem eq_encode_mavAdd (hop : opField w = 0x81) : w = encode (.mavAdd (argField w)) :=
  eq_commandWord_iff.mpr ⟨hop, rfl⟩

theorem eq_encode_of_decode (h : decode w = .ok i) : w = encode i := by
  obtain ⟨hprefix, harg, rfl⟩ | ⟨hprefix, hhigh, rfl⟩ | ⟨hop, rfl⟩ | ⟨hop, rfl⟩ | ⟨hmem, harg⟩ :=
    decode_eq_ok h
  · exact eq_encode_rreg hprefix harg
  · exact eq_encode_wreg hprefix hhigh
  · exact eq_encode_mavCreate hop
  · exact eq_encode_mavAdd hop
  · rw [encode_of_mem_noOperandOps _ hmem]
    exact eq_commandWord_iff.mpr ⟨rfl, harg⟩

theorem decode_encode (i : Instr) : decode (encode i) = .ok i := by
  cases i with
  | rreg addr => simp [encode, decode]
  | wreg addr value => simp [encode, decode]
  | mavCreate cap => simp [encode, decode]
  | mavAdd v => simp [encode, decode]
  | _ => rfl

/-- Settles O1: the two directions are the two round trips. -/
theorem wordDecodesIffEncoded : Obligations.WordDecodesIffEncoded := by
  intro w i
  constructor
  · exact eq_encode_of_decode
  · rintro rfl
    exact decode_encode i

end Sys2Proof
end

section
/-! SUPPORT. The operation map and the decoder agree (spec 30_encoding.md rules R92, R96): the words that a row matches
are the encoded words of the row's command. -/

namespace Sys2Proof

variable {w : CommandWord} {i : Instr}

/-- The encoded word of a command lies in the command's own row. -/
theorem encode_in_row (i : Instr) : Laws.InRow.Statement i := by
  cases i with
  | rdata => exact Laws.InRow.rdata
  | sfocal => exact Laws.InRow.sfocal
  | rreg addr => exact Laws.InRow.rreg addr
  | wreg addr value => exact Laws.InRow.wreg addr value
  | mavCreate cap => exact Laws.InRow.mavCreate cap
  | mavAdd v => exact Laws.InRow.mavAdd v
  | mavAvg => exact Laws.InRow.mavAvg
  | mavClear => exact Laws.InRow.mavClear
  | mavSnap => exact Laws.InRow.mavSnap
  | winOpen => exact Laws.InRow.winOpen
  | winPoll => exact Laws.InRow.winPoll
  | getLast => exact Laws.InRow.getLast
  | getCount => exact Laws.InRow.getCount
  | getStatus => exact Laws.InRow.getStatus
  | clrStatus => exact Laws.InRow.clrStatus
  | irqEn => exact Laws.InRow.irqEn
  | irqDis => exact Laws.InRow.irqDis
  | getTime => exact Laws.InRow.getTime

/-- The rows are the four with operands and the format-N rows, each of which fixes the whole word. -/
theorem opcodeTable_cases : ∀ r ∈ opcodeTable,
    r = ⟨"RREG", 0x2000000000, 0xE0FFFFFFFF⟩ ∨ r = ⟨"WREG", 0x4000000000, 0xE0FFFFFF00⟩ ∨
      r = ⟨"MAV_CREATE", 0x8000000000, 0xFF00000000⟩ ∨ r = ⟨"MAV_ADD", 0x8100000000, 0xFF00000000⟩ ∨
      (r.mask = BitVec.allOnes 40 ∧ ∃ c ∈ noOperandOps, r.pattern = encode c.2 ∧ c.2.mnemonic = r.mnemonic) := by
  decide

/-- A bit field that a mask keeps whole is the pattern's. -/
theorem extractLsb'_eq_of_and_eq {m p : CommandWord} {start len : Nat} (h : w &&& m = p)
    (hmask : m.extractLsb' start len = BitVec.allOnes len) : w.extractLsb' start len = p.extractLsb' start len := by
  rw [← h, BitVec.extractLsb'_and, hmask, BitVec.and_allOnes]

/-- A word that a row matches is the encoded word of a command with the row's mnemonic. -/
theorem exists_eq_encode_of_row {r : OpRow} (hr : r ∈ opcodeTable) (h : w &&& r.mask = r.pattern) :
    ∃ i, w = encode i ∧ i.mnemonic = r.mnemonic := by
  obtain rfl | rfl | rfl | rfl | ⟨hmask, c, -, hpattern, hmnemonic⟩ := opcodeTable_cases r hr
  · exact ⟨_, eq_encode_rreg (extractLsb'_eq_of_and_eq h rfl) (extractLsb'_eq_of_and_eq h rfl), rfl⟩
  · exact ⟨_, eq_encode_wreg (extractLsb'_eq_of_and_eq h rfl) (extractLsb'_eq_of_and_eq h rfl), rfl⟩
  · exact ⟨_, eq_encode_mavCreate (extractLsb'_eq_of_and_eq h rfl), rfl⟩
  · exact ⟨_, eq_encode_mavAdd (extractLsb'_eq_of_and_eq h rfl), rfl⟩
  · refine ⟨c.2, ?_, hmnemonic⟩
    rw [← hpattern, ← h, hmask, BitVec.and_allOnes]

/-- Two rows that agree wherever both fix a bit are one row. -/
theorem opcodeTable_disjoint : ∀ r ∈ opcodeTable, ∀ r' ∈ opcodeTable,
    r.pattern &&& r'.mask = r'.pattern &&& r.mask → r = r' := by
  decide

/-- Settles O2: two rows that match one word agree on the bits both fix, and the words of a row are the encoded words
of its command. -/
theorem decodeFollowsOperationMap : Obligations.DecodeFollowsOperationMap := by
  refine ⟨fun w r r' hr hr' h h' => ?_, fun w i h => ?_, fun w r hr h => ?_⟩
  · refine opcodeTable_disjoint r hr r' hr' ?_
    rw [← h, ← h', BitVec.and_assoc, BitVec.and_assoc, BitVec.and_comm r.mask]
  · obtain rfl := eq_encode_of_decode h
    exact encode_in_row i
  · obtain ⟨i, rfl, hmnemonic⟩ := exists_eq_encode_of_row hr h
    exact ⟨i, decode_encode i, hmnemonic⟩

end Sys2Proof
end

section
/-! SUPPORT. The illegal words (spec 30_encoding.md rule R100): the `op` bytes and the `arg` of the encoded words leave
out every word the rule lists. -/

namespace Sys2Proof

variable {i : Instr}

theorem rregOp_toNat (addr : RegAddr) : ((0b001 : BitVec 3) ++ addr : Byte).toNat = 0x20 + addr.toNat := by
  revert addr
  decide

theorem wregOp_toNat (addr : RegAddr) : ((0b010 : BitVec 3) ++ addr : Byte).toNat = 0x40 + addr.toNat := by
  revert addr
  decide

/-- The `op` bytes of the operation map (R96). -/
def listedOp (op : Byte) : Prop :=
  op = 0x12 ∨ op = 0x19 ∨ (0x20 ≤ op.toNat ∧ op.toNat ≤ 0x5F) ∨ (0x80 ≤ op.toNat ∧ op.toNat ≤ 0x84) ∨
    (0x90 ≤ op.toNat ∧ op.toNat ≤ 0x98)

theorem listedOp_of_encode (i : Instr) : listedOp (opField (encode i)) := by
  unfold listedOp
  cases i with
  | rreg addr => simp only [encode, opField_commandWord, rregOp_toNat]; omega
  | wreg addr value => simp only [encode, opField_commandWord, wregOp_toNat]; omega
  | mavCreate cap => simp [encode]
  | mavAdd v => simp [encode]
  | _ => decide

/-- R91: only the formats W and I have operands in `arg`. -/
theorem argField_encode (i : Instr) :
    argField (encode i) = 0 ∨ opField (encode i) = 0x80 ∨ opField (encode i) = 0x81 ∨
      (0x40 ≤ (opField (encode i)).toNat ∧ (opField (encode i)).toNat ≤ 0x5F) := by
  cases i with
  | wreg addr value => simp only [encode, opField_commandWord, wregOp_toNat]; omega
  | mavCreate cap => simp [encode]
  | mavAdd v => simp [encode]
  | rreg addr => simp [encode]
  | _ => exact .inl rfl

/-- R91: in the `op` range of format W, `arg` holds the value alone. -/
theorem writeHighField_encode (hlo : 0x40 ≤ (opField (encode i)).toNat) (hhi : (opField (encode i)).toNat ≤ 0x5F) :
    writeHighField (encode i) = 0 := by
  cases i with
  | wreg addr value => simp [encode]
  | rreg addr => simp only [encode, opField_commandWord, rregOp_toNat] at hlo; omega
  | mavCreate cap => simp [encode] at hhi
  | mavAdd v => simp [encode] at hhi
  | _ => rfl

/-- A word that is the word of no command is matched by no row. -/
theorem and_mask_ne_pattern {w : CommandWord} (h : ∀ i, w ≠ encode i) :
    ∀ r ∈ opcodeTable, w &&& r.mask ≠ r.pattern := by
  intro r hr hmatch
  obtain ⟨i, hi, -⟩ := exists_eq_encode_of_row hr hmatch
  exact h i hi

/-- A word that no row matches decodes to no command. -/
theorem decode_ne_ok {w : CommandWord} (h : ∀ r ∈ opcodeTable, w &&& r.mask ≠ r.pattern) (i : Instr) :
    decode w ≠ .ok i := by
  intro hi
  obtain ⟨-, hrow, -⟩ := decodeFollowsOperationMap
  obtain ⟨r, hr, -, hmatch⟩ := hrow w i hi
  exact h r hr hmatch

/-- Settles O3: a word that no row matches is rejected by the decoder, and an encoded word has a listed `op` byte and no
bits in `arg` beyond its operands. -/
theorem illegalWordsOnlyGetAResponse : Obligations.IllegalWordsOnlyGetAResponse := by
  refine ⟨fun w s h => ?_, fun op arg hop => ?_, fun op arg hcreate hadd hwrite harg => ?_,
    fun op arg hlo hhi harg => ?_⟩
  · cases hd : decode w with
    | ok i => exact absurd hd (decode_ne_ok h i)
    | error f =>
      simp only [Machine.perform, hd]
      rfl
  · refine and_mask_ne_pattern fun i hi => ?_
    obtain ⟨rfl, -⟩ := eq_commandWord_iff.mp hi.symm
    have hlisted := listedOp_of_encode i
    unfold listedOp at hlisted
    bv_omega
  · refine and_mask_ne_pattern fun i hi => ?_
    obtain ⟨rfl, rfl⟩ := eq_commandWord_iff.mp hi.symm
    obtain hzero | hop | hop | hop := argField_encode i
    · exact harg hzero
    · exact hcreate hop
    · exact hadd hop
    · exact hwrite hop
  · refine and_mask_ne_pattern fun i hi => ?_
    obtain ⟨rfl, rfl⟩ := eq_commandWord_iff.mp hi.symm
    have hhigh := writeHighField_encode hlo hhi
    rw [← writeHighField_commandWord, hi] at harg
    exact harg hhigh

end Sys2Proof
end

section
/-! SUPPORT. The sample as an integer and the opcode bytes of the frames (spec 20_memory.md rules R62, R65,
30_encoding.md rule R98). -/

namespace Sys2Proof.Machine

/-- R65: three bytes, the first of them signed, as one big-endian number. -/
theorem assembleSample_toInt (hi mid lo : Byte) :
    (assembleSample hi mid lo).toInt = hi.toInt * 65536 + mid.toNat * 256 + lo.toNat := by
  rw [assembleSample, BitVec.toInt_signExtend_of_le (by decide), BitVec.toInt_append, BitVec.toInt_append]
  simp only [beq_iff_eq]
  omega

/-- Settles O12: the sample is assembled from offsets 2 to 4, and adding an address of 5 bits to a multiple of 32 joins
the two. -/
theorem sampleIsTheBigEndianNumber : Obligations.SampleIsTheBigEndianNumber := by
  refine ⟨fun rx => ?_, fun p addr => ?_⟩
  · have hvalue : (sampleOf rx).toInt = rx[2].toInt * 65536 + rx[3].toNat * 256 + rx[4].toNat :=
      assembleSample_toInt _ _ _
    have hlo := BitVec.le_toInt rx[2]
    have hhi := BitVec.toInt_lt (x := rx[2])
    have hmid := rx[3].isLt
    have hlow := rx[4].isLt
    exact ⟨hvalue, by omega, by omega⟩
  · simp only [readOpcode, writeOpcode, Params.rregBase_eq, Params.wregBase_eq]
    revert addr
    decide

end Sys2Proof.Machine
end

section
/-! SUPPORT. The nine words of vectors V30 (spec 95_test_vectors.md section 2.0). -/

namespace Sys2Proof

/-- Settles O4: six words are encoded commands, and the decoder rejects the other three with their causes. -/
theorem testVectorWordsDecode : Obligations.TestVectorWordsDecode := by
  simp only [Obligations.TestVectorWordsDecode, wordDecodesIffEncoded _ _]
  decide

end Sys2Proof
end

section
/-! SUPPORT. The lines of a host program (spec 30_encoding.md rule R103; the ranges are log entry 13). -/

namespace Sys2Proof.Machine

variable {p : Params} {l : SourceLine} {n v : Int}

/-- A well-formed line of a command stands for the command's word. -/
theorem assembleLine_of_command {i : Instr} (hwf : l.wf = true) (hc : lineCommand p l = some i) :
    assembleLine p l = some [.command (encode i)] := by
  simp [assembleLine, hwf, hc]

/-- A well-formed line of no command stands for its event steps. -/
theorem assembleLine_of_events (hwf : l.wf = true) (hc : lineCommand p l = none) : assembleLine p l = lineEvents l := by
  simp [assembleLine, hwf, hc]

/-- A number that fits a field is the field's value. -/
theorem toNat_ofInt_of_lt {w : Nat} (hlo : 0 ≤ n) (hhi : n < 2 ^ w) : ((BitVec.ofInt w n).toNat : Int) = n := by
  have hmod : n % ((2 ^ w : Nat) : Int) = n := Int.emod_eq_of_lt hlo (by exact_mod_cast hhi)
  rw [BitVec.toNat_ofInt, hmod, Int.toNat_of_nonneg hlo]

theorem Operand.isAddr_num (hlo : 0 ≤ n) (hhi : n < 32) : (Operand.num n).isAddr = true := by
  simp [Operand.isAddr, hlo, hhi]

theorem assembleLine_rreg {a : Operand} (ha : a.isAddr = true) :
    assembleLine p ⟨"RREG", [a]⟩ = some [.command (encode (.rreg (addrOperand p a)))] :=
  assembleLine_of_command (by simp [SourceLine.wf, ha]) rfl

theorem assembleLine_wreg {a : Operand} (ha : a.isAddr = true) (hlo : 0 ≤ v) (hhi : v < 256) :
    assembleLine p ⟨"WREG", [a, .num v]⟩ =
      some [.command (encode (.wreg (addrOperand p a) (BitVec.ofInt 8 v)))] :=
  assembleLine_of_command (by simp [SourceLine.wf, ha, hlo, hhi]) rfl

theorem assembleLine_mavCreate (hlo : 0 ≤ n) (hhi : n < 4294967296) :
    assembleLine p ⟨"MAV_CREATE", [.num n]⟩ = some [.command (encode (.mavCreate (BitVec.ofInt 32 n)))] :=
  assembleLine_of_command (by simp [SourceLine.wf, hlo, hhi]) rfl

theorem assembleLine_mavAdd (hlo : -2147483648 ≤ n) (hhi : n < 2147483648) :
    assembleLine p ⟨"MAV_ADD", [.num n]⟩ = some [.command (encode (.mavAdd (BitVec.ofInt 32 n)))] :=
  assembleLine_of_command (by simp [SourceLine.wf, hlo, hhi]) rfl

theorem assembleLine_tick (hn : 0 ≤ n) :
    assembleLine p ⟨"TICK", [.num n]⟩ = some (List.replicate n.toNat .tick) :=
  (assembleLine_of_events (by simp [SourceLine.wf, hn]) rfl).trans rfl

/-- The mnemonics of the commands that stand alone are well-formed lines of their commands. -/
theorem assembleLine_bare : ∀ c ∈ bareCommands, assembleLine p ⟨c.1, []⟩ = some [.command (encode c.2)] := by
  intro c hc
  have hline : ∀ c ∈ bareCommands, c.1 ∈ bareMnemonics ∧ bareCommands.lookup c.1 = some c.2 := by decide
  obtain ⟨hmem, hlookup⟩ := hline c hc
  exact assembleLine_of_command (by simp [SourceLine.wf, hmem]) hlookup

/-- Settles O57: each form of line, its numbers read into fields that hold them. -/
theorem sourceLinesAssemble : Obligations.SourceLinesAssemble := by
  intro p r n v
  refine ⟨fun hn0 hn => ?_, assembleLine_rreg rfl, fun hn0 hn hv0 hv => ?_, fun hv0 hv => ?_, fun hn0 hn => ?_,
    fun hlo hhi => ?_, fun hn => ?_, assembleLine_bare, assembleLine_of_events rfl rfl,
    assembleLine_of_events rfl rfl⟩
  · exact ⟨_, toNat_ofInt_of_lt hn0 hn, assembleLine_rreg (Operand.isAddr_num hn0 hn)⟩
  · exact ⟨_, _, toNat_ofInt_of_lt hn0 hn, toNat_ofInt_of_lt hv0 hv,
      assembleLine_wreg (Operand.isAddr_num hn0 hn) hv0 hv⟩
  · exact ⟨_, toNat_ofInt_of_lt hv0 hv, assembleLine_wreg rfl hv0 hv⟩
  · exact ⟨_, toNat_ofInt_of_lt hn0 hn, assembleLine_mavCreate hn0 hn⟩
  · exact ⟨_, BitVec.toInt_ofInt_eq_self (by decide) hlo hhi, assembleLine_mavAdd hlo hhi⟩
  · exact ⟨n.toNat, Int.toNat_of_nonneg hn, assembleLine_tick hn⟩

end Sys2Proof.Machine
end

section
/-! SUPPORT. Every command ends with one response (spec 30_encoding.md rule R94, 60_exceptions.md rule R221): its last
act is to finish with a datum or a fault, and nothing before that responds. -/

namespace Sys2Proof.Machine

variable {s t : State} {i : Instr}

/-- A push does not respond. -/
theorem State.mavAdd_responses {v : Sample} (h : s.mavAdd v = .next t) : t.responses = s.responses := by
  obtain ⟨base, c, rfl⟩ := State.mavAdd_next_storeSample h
  rfl

/-- Every command finishes, with a datum or a fault, a state in which it has not responded yet. -/
theorem exec_finishes (h : exec i s = .next t) : ∃ u r, t = State.finish u r ∧ u.responses = s.responses := by
  cases i with
  | mavCreate cap =>
    obtain ⟨-, rfl⟩ | ⟨-, rfl⟩ | ⟨-, -, rfl⟩ := execMavCreate_next h
    · exact ⟨_, .error .invalidCapacity, rfl, rfl⟩
    · exact ⟨_, .error .capacityExceeded, rfl, rfl⟩
    · exact ⟨_, .ok 0, rfl, rfl⟩
  | mavAdd v =>
    obtain ⟨-, rfl⟩ | ⟨-, u, hu, rfl⟩ := execMavAdd_next h
    · exact ⟨_, .error .noBuffer, rfl, rfl⟩
    · exact ⟨u, .ok 0, rfl, State.mavAdd_responses hu⟩
  | mavAvg =>
    cases h
    split
    · exact ⟨_, .ok _, rfl, rfl⟩
    · exact ⟨_, .error .noBuffer, rfl, rfl⟩
  | mavClear =>
    cases h
    split
    · exact ⟨_, .ok 0, rfl, rfl⟩
    · exact ⟨_, .error .noBuffer, rfl, rfl⟩
  | mavSnap =>
    cases h
    split
    · exact ⟨_, .ok _, rfl, rfl⟩
    · exact ⟨_, .error .noBuffer, rfl, rfl⟩
  | winPoll =>
    cases h
    split
    · exact ⟨_, .ok 1, rfl, rfl⟩
    · exact ⟨_, .ok 0, rfl, rfl⟩
  | rdata | sfocal | rreg addr | wreg addr value => cases h; exact ⟨_, _, rfl, rfl⟩
  | _ => cases h; exact ⟨_, .ok _, rfl, rfl⟩

/-- A command word that decodes to no command finishes with `IllegalCommand`. -/
theorem perform_command_finishes {w : CommandWord} (h : perform (.command w) s = .next t) :
    ∃ u r, t = State.finish u r ∧ u.responses = s.responses := by
  cases hd : decode w with
  | ok i => exact exec_finishes (perform_of_decode hd ▸ h)
  | error f =>
    simp only [perform, hd, Host.Outcome.next.injEq] at h
    exact ⟨s, .error .illegalCommand, h.symm, rfl⟩

theorem HostFault.code_le (f : HostFault) : f.code.toNat ≤ 5 := by cases f <;> decide

/-- To finish is to add one response, with datum 0 and a code of R221 unless it is OK. -/
theorem State.finish_responses (s : State) (r : Except HostFault Data) :
    ∃ x, (s.finish r).responses = s.responses ++ [x] ∧ (x.st ≠ 0 → x.data = 0) ∧ x.st.toNat ≤ 5 := by
  cases r with
  | ok d => exact ⟨⟨0x00, d⟩, rfl, fun hne => absurd rfl hne, Nat.zero_le 5⟩
  | error f => exact ⟨⟨f.code, 0⟩, rfl, fun _ => rfl, f.code_le⟩

/-- Settles O35: a command finishes once, and no kind of an event's writes responds. -/
theorem everyCommandRespondsOnce : Obligations.EveryCommandRespondsOnce := by
  constructor
  · intro w s t h
    obtain ⟨u, r, rfl, hu⟩ := perform_command_finishes h
    exact hu ▸ u.finish_responses r
  · intro e s t hevent h
    cases perform_effect h with
    | ignoreEdge | latchEdge | countEdge | failedRead | latchSample | latchAndPush | tick => rfl
    | _ => exact absurd rfl (hevent _)

end Sys2Proof.Machine
end

section
/-! SUPPORT. Two runs that differ on the bus side (spec 30_encoding.md rules R97, R98). The trace and the answers are
the bus side of a state; an operation leaves it alone, or reads it in one exchange and is blind to it from there on. -/

namespace Sys2Proof.Machine

variable {s u : State} {a b : Answer} {rest : List Answer} {head tail : List BusEvent}
  {f : State → Host.Outcome State Fault Refusal}

/-- The state with another bus side. -/
def State.withBus (s : State) (tr : List BusEvent) (as : List Answer) : State := { s with trace := tr, answers := as }

/-- On the state `s` the operation `f` does not read the bus side, and does nothing to it but append `tail` to the
trace. -/
def BusBlind (tail : List BusEvent) (f : State → Host.Outcome State Fault Refusal) (s : State) : Prop :=
  ∀ tr as, f (s.withBus tr as) = andThen (f s) fun t => t.withBus (tr ++ tail) as

/-- The runs of `f` from `s` on the answers `a` and `b` end alike, but for the received bytes that this very run
recorded: the conclusion of O13. -/
def SameButReceived (a b : Answer) (rest : List Answer) (f : State → Host.Outcome State Fault Refusal)
    (s : State) : Prop :=
  ∀ t, f (s.withBus s.trace (a :: rest)) = .next t →
    ∃ (l l' : List BusEvent) (as : List Answer), t.trace = s.trace ++ l ∧
      l'.map withoutReceived = l.map withoutReceived ∧
      ((t.answers = rest ∧ as = rest) ∨ (t.answers = a :: rest ∧ as = b :: rest ∧ l' = l)) ∧
      f (s.withBus s.trace (b :: rest)) = .next (t.withBus (s.trace ++ l') as)

/-- An operation that is blind to the bus side uses no answer. -/
theorem BusBlind.sameButReceived (h : BusBlind [] f s) : SameButReceived a b rest f s := by
  intro t ht
  rw [h, andThen_eq_next] at ht
  obtain ⟨u, hu, rfl⟩ := ht
  refine ⟨[], [], b :: rest, rfl, rfl, .inr ⟨rfl, rfl, rfl⟩, ?_⟩
  rw [h, hu]
  rfl

/-! ### The exchange -/

/-- Two answers that agree on the outcome and on the bytes that some rule reads. -/
structure AgreeOnReadBytes (a b : Answer) : Prop where
  ok : a.ok = b.ok
  byte2 : a.bytes[2] = b.bytes[2]
  byte3 : a.bytes[3] = b.bytes[3]
  byte4 : a.bytes[4] = b.bytes[4]

variable {n : Nat} {tx : Vector Byte n} {hn : n ≤ 6} {α : Type} {k : Vector Byte n → α}

theorem State.xferResult_withBus_cons (tr : List BusEvent) (c : Answer) :
    (u.withBus tr (c :: rest)).xferResult tx hn =
      if c.ok || !u.params.busCanFail then some (Answer.received c n hn) else none := rfl

/-- What is read of the received bytes is the same for both answers if it depends on the bytes they agree on. -/
theorem AgreeOnReadBytes.map_xferResult (hab : AgreeOnReadBytes a b) (tr : List BusEvent)
    (hk : k (Answer.received a n hn) = k (Answer.received b n hn)) :
    ((u.withBus tr (b :: rest)).xferResult tx hn).map k = ((u.withBus tr (a :: rest)).xferResult tx hn).map k := by
  rw [State.xferResult_withBus_cons, State.xferResult_withBus_cons, hab.ok]
  split
  · simp only [Option.map_some, hk]
  · rfl

/-- The event that an exchange records (R66). -/
def State.xferEvent (s : State) (tx : Vector Byte n) (hn : n ≤ 6) : BusEvent :=
  .xfer tx.toList ((s.xferResult tx hn).map Vector.toList)

theorem State.withoutReceived_xferEvent :
    withoutReceived (u.xferEvent tx hn) = .xfer tx.toList ((u.xferResult tx hn).map fun _ => []) := by
  simp [State.xferEvent, withoutReceived, Function.comp_def]

/-- The sample is read from the bytes at offsets 2 to 4 (R98). -/
theorem AgreeOnReadBytes.sampleOf_received (hab : AgreeOnReadBytes a b) (h : 6 ≤ 6) :
    sampleOf (Answer.received a 6 h) = sampleOf (Answer.received b 6 h) := by
  simp [sampleOf, hab.byte2, hab.byte3, hab.byte4]

/-- An exchange uses up its answer and records its event, and does nothing else. -/
theorem State.afterXfer_withBus_cons (tr : List BusEvent) (c : Answer) :
    (u.withBus tr (c :: rest)).afterXfer tx hn =
      u.withBus (tr ++ [(u.withBus tr (c :: rest)).xferEvent tx hn]) rest := rfl

/-- An operation that makes one exchange from the state `u` and goes on, blind to the bus side, with what `k` reads of
the received bytes. -/
theorem AgreeOnReadBytes.sameButReceived {go : Option α → State → Host.Outcome State Fault Refusal}
    (hab : AgreeOnReadBytes a b) (hu : u.trace = s.trace ++ head)
    (hf : ∀ c, f (s.withBus s.trace (c :: rest)) =
      go (((u.withBus u.trace (c :: rest)).xferResult tx hn).map k) ((u.withBus u.trace (c :: rest)).afterXfer tx hn))
    (hgo : ∀ r, BusBlind tail (go r) u) (hk : k (Answer.received a n hn) = k (Answer.received b n hn)) :
    SameButReceived a b rest f s := by
  intro t ht
  rw [hf, State.afterXfer_withBus_cons, hgo, andThen_eq_next] at ht
  obtain ⟨v, hv, rfl⟩ := ht
  refine ⟨head ++ [(u.withBus u.trace (a :: rest)).xferEvent tx hn] ++ tail,
    head ++ [(u.withBus u.trace (b :: rest)).xferEvent tx hn] ++ tail, rest, ?_, ?_, .inl ⟨rfl, rfl⟩, ?_⟩
  · simp [State.withBus, hu]
  · simp [State.withoutReceived_xferEvent, hab.map_xferResult]
  · rw [hf, State.afterXfer_withBus_cons, hgo, hab.map_xferResult _ hk, hv]
    simp [andThen, State.withBus, hu]

end Sys2Proof.Machine
end

section
/-! SUPPORT. Which operations are blind to the bus side: all but the exchange (spec 30_encoding.md rule R97). -/

namespace Sys2Proof.Machine

variable {s : State} {tail : List BusEvent} {f g : State → Host.Outcome State Fault Refusal}

/-! ### The shapes of an operation -/

theorem BusBlind.of_next {m : State → State} (hm : ∀ tr as, m (s.withBus tr as) = (m s).withBus (tr ++ tail) as) :
    BusBlind tail (fun u => .next (m u)) s :=
  fun tr as => congrArg Host.Outcome.next (hm tr as)

theorem BusBlind.of_next_nil {m : State → State} (hm : ∀ tr as, m (s.withBus tr as) = (m s).withBus tr as) :
    BusBlind [] (fun u => .next (m u)) s :=
  .of_next fun tr as => by rw [hm, List.append_nil]

/-- The condition is a register's, or computed from registers: no bus side. -/
theorem BusBlind.of_next_ite {c : State → Bool} {m m' : State → State} (hc : ∀ tr as, c (s.withBus tr as) = c s)
    (hm : ∀ tr as, m (s.withBus tr as) = (m s).withBus tr as)
    (hm' : ∀ tr as, m' (s.withBus tr as) = (m' s).withBus tr as) :
    BusBlind [] (fun u => .next (if c u then m u else m' u)) s :=
  .of_next_nil fun tr as => by simp only [hc, hm, hm', apply_ite (State.withBus · tr as)]

theorem BusBlind.ite {c : State → Prop} [DecidablePred c] (hc : ∀ tr as, c (s.withBus tr as) ↔ c s)
    (hf : BusBlind tail f s) (hg : BusBlind tail g s) : BusBlind tail (fun u => if c u then f u else g u) s := by
  intro tr as
  by_cases hs : c s
  · simpa only [hc, hs, if_true] using hf tr as
  · simpa only [hc, hs, if_false] using hg tr as

theorem BusBlind.andThen {m : State → State} (hf : BusBlind tail f s)
    (hm : ∀ t tr as, m (State.withBus t tr as) = (m t).withBus tr as) :
    BusBlind tail (fun u => Machine.andThen (f u) m) s := by
  intro tr as
  simp only [hf tr as]
  cases f s with
  | next t => exact congrArg Host.Outcome.next (hm t _ _)
  | fault r => rfl
  | refused r => rfl

/-! ### The push -/

theorem State.mavAdd_of_room {v : Sample} (h : s.count ≠ s.cap) :
    s.mavAdd v = .next (s.storeSample v s.sum (s.count + 1)) := if_neg h

theorem State.mavAdd_of_full {v old : Sample} (h : s.count = s.cap) (hold : Memory.read s.buf s.head.toNat = some old) :
    s.mavAdd v = .next (s.storeSample v (s.sum - sext48 old) s.count) := by
  simp [State.mavAdd, h, hold]

theorem State.mavAdd_busBlind (v : Sample) : BusBlind [] (fun t => t.mavAdd v) s := by
  intro tr as
  simp only [List.append_nil]
  by_cases hfull : s.count = s.cap
  · cases hold : Memory.read s.buf s.head.toNat with
    | some old =>
      rw [State.mavAdd_of_full hfull hold, State.mavAdd_of_full (s := s.withBus tr as) hfull hold]
      rfl
    | none =>
      rw [State.mavAdd_eq_fault_iff.mpr ⟨hfull, hold⟩,
        State.mavAdd_eq_fault_iff (s := s.withBus tr as).mpr ⟨hfull, hold⟩]
      rfl
  · rw [State.mavAdd_of_room hfull, State.mavAdd_of_room (s := s.withBus tr as) hfull]
    rfl

/-! ### What follows an exchange -/

/-- The last act of a codec command, on the datum of its exchange (R120 to R123). -/
def endCodec (r : Option Data) (s : State) : Host.Outcome State Fault Refusal := .next (s.finish (busResult r))

theorem State.finish_withBus (s : State) (r : Except HostFault Data) (tr : List BusEvent) (as : List Answer) :
    (s.withBus tr as).finish r = (s.finish r).withBus tr as := by
  cases r with
  | ok d => rfl
  | error f => rfl

theorem endCodec_busBlind (r : Option Data) : BusBlind [] (endCodec r) s :=
  .of_next_nil fun _ _ => State.finish_withBus _ _ _ _

theorem endCodec_startHigh_busBlind (r : Option Data) : BusBlind [.startHigh] (fun t => endCodec r t.startHigh) s :=
  .of_next fun _ _ => by rw [← State.finish_withBus]; rfl

/-- What an edge service does after its exchange (R161). -/
def endService (r : Option Sample) (s : State) : Host.Outcome State Fault Refusal :=
  match r with
  | some v => if s.bufValid then (s.latchSample v).mavAdd v else .next (s.latchSample v)
  | none => .next s.flagBusError

theorem serviceSample_eq (s : State) : serviceSample s = endService s.rawSample s.afterRawSample := by
  unfold serviceSample
  cases s.rawSample with
  | some v => rfl
  | none => rfl

theorem endService_busBlind (r : Option Sample) : BusBlind [] (endService r) s := by
  cases r with
  | some v =>
    have hpush : BusBlind [] (fun u => (u.latchSample v).mavAdd v) s := State.mavAdd_busBlind (s := s.latchSample v) v
    exact .ite (fun _ _ => Iff.rfl) hpush (.of_next_nil fun _ _ => rfl)
  | none => exact .of_next_nil fun _ _ => rfl

/-! ### The commands that exchange nothing -/

theorem execMavCreate_busBlind (cap : BitVec 32) : BusBlind [] (execMavCreate cap) s :=
  .ite (fun _ _ => Iff.rfl) (.of_next_nil fun _ _ => rfl)
    (.ite (fun _ _ => Iff.rfl) (.of_next_nil fun _ _ => rfl) (.of_next_nil fun _ _ => rfl))

theorem execMavAdd_busBlind (v : Sample) : BusBlind [] (execMavAdd v) s :=
  .ite (fun _ _ => Iff.rfl) ((State.mavAdd_busBlind v).andThen fun _ _ _ => rfl)
    (.of_next_nil fun _ _ => rfl)

theorem execMavAvg_busBlind : BusBlind [] execMavAvg s :=
  .of_next_ite (c := State.bufValid) (fun _ _ => rfl) (fun _ _ => rfl) (fun _ _ => rfl)

theorem execMavClear_busBlind : BusBlind [] execMavClear s :=
  .of_next_ite (c := State.bufValid) (fun _ _ => rfl) (fun _ _ => rfl) (fun _ _ => rfl)

theorem execMavSnap_busBlind : BusBlind [] execMavSnap s :=
  .of_next_ite (c := State.bufValid) (fun _ _ => rfl) (fun _ _ => rfl) (fun _ _ => rfl)

theorem execWinPoll_busBlind : BusBlind [] execWinPoll s :=
  .of_next_ite (c := State.inWindow) (fun _ _ => rfl) (fun _ _ => rfl) (fun _ _ => rfl)

theorem edgeArrives_busBlind : BusBlind [] edgeArrives s :=
  .of_next_ite (c := State.edgeEn) (fun _ _ => rfl) (fun _ _ => rfl) (fun _ _ => rfl)

end Sys2Proof.Machine
end

section
/-! SUPPORT. No input lets the inbound bytes at offsets 0, 1 and 5 enter a result (spec 30_encoding.md rule R97,
93_implementation_defined.md U7). -/

namespace Sys2Proof.Machine

variable {s : State} {a b : Answer} {rest : List Answer}

/-- The four codec commands make one exchange each, and the other commands none (R120 to R123). -/
theorem exec_sameButReceived (hab : AgreeOnReadBytes a b) (i : Instr) : SameButReceived a b rest (exec i) s := by
  cases i with
  | rdata =>
    exact hab.sameButReceived (u := s) (tx := sampleFrame s.params) (hn := by decide) (head := [])
      (k := sampleOf) (go := fun r => endCodec (r.map fun v => v.signExtend 64)) (List.append_nil _).symm
      (fun _ => rfl) (fun _ => endCodec_busBlind _) (hab.sampleOf_received _)
  | sfocal =>
    exact hab.sameButReceived (u := s) (tx := calibrationFrame s.params) (hn := by decide) (head := [])
      (k := fun _ => 0) (List.append_nil _).symm (fun _ => rfl) endCodec_busBlind rfl
  | rreg addr =>
    exact hab.sameButReceived (u := s) (tx := readFrame s.params addr) (hn := by decide) (head := [])
      (k := fun rx => rx[2].setWidth 64) (List.append_nil _).symm (fun _ => rfl) endCodec_busBlind
      (by simp [hab.byte2])
  | wreg addr value =>
    exact hab.sameButReceived (u := s.startLow) (tx := writeFrame s.params addr value) (hn := by decide)
      (head := [.startLow]) (k := fun _ => 0) rfl (fun _ => rfl) endCodec_startHigh_busBlind rfl
  | mavCreate cap => exact (execMavCreate_busBlind cap).sameButReceived
  | mavAdd v => exact (execMavAdd_busBlind v).sameButReceived
  | mavAvg => exact execMavAvg_busBlind.sameButReceived
  | mavClear => exact execMavClear_busBlind.sameButReceived
  | mavSnap => exact execMavSnap_busBlind.sameButReceived
  | winPoll => exact execWinPoll_busBlind.sameButReceived
  | _ => exact BusBlind.sameButReceived (.of_next_nil fun _ _ => rfl)

theorem edgeService_of_inWindow (hp : s.edgePending = true) (hw : s.inWindow = true) :
    edgeService s = .next s.clearPending.countEdge := by
  simp [edgeService, serviceBody, hp, hw]

theorem edgeService_of_outside (hp : s.edgePending = true) (hw : s.inWindow = false) :
    edgeService s = endService s.clearPending.closeWindow.rawSample s.clearPending.closeWindow.afterRawSample := by
  simp [edgeService, serviceBody, hp, hw, serviceSample_eq]

/-- A service exchanges only outside a window. -/
theorem edgeService_sameButReceived (hab : AgreeOnReadBytes a b) : SameButReceived a b rest edgeService s := by
  cases hp : s.edgePending with
  | false =>
    intro t ht
    obtain ⟨hpending, -⟩ := edgeService_next ht
    exact absurd (hp.symm.trans hpending) (by decide)
  | true =>
    cases hw : s.inWindow with
    | true =>
      refine BusBlind.sameButReceived fun tr as => ?_
      rw [edgeService_of_inWindow hp hw, edgeService_of_inWindow (s := s.withBus tr as) hp hw, List.append_nil]
      rfl
    | false =>
      exact hab.sameButReceived (u := s.clearPending.closeWindow) (tx := sampleFrame s.params) (hn := by decide)
        (head := []) (k := sampleOf) (List.append_nil _).symm
        (fun c => edgeService_of_outside (s := s.withBus s.trace (c :: rest)) hp hw) endService_busBlind
        (hab.sampleOf_received _)

theorem perform_sameButReceived (hab : AgreeOnReadBytes a b) (e : Input) : SameButReceived a b rest (perform e) s := by
  cases e with
  | command w =>
    cases hd : decode w with
    | ok i =>
      have hperform : perform (.command w) = exec i := funext fun _ => perform_of_decode hd
      exact hperform ▸ exec_sameButReceived hab i
    | error f =>
      have hperform : perform (.command w) = fun u => .next (u.raise .illegalCommand) := by
        funext u
        simp only [perform, hd]
      rw [hperform]
      exact BusBlind.sameButReceived (.of_next_nil fun _ _ => rfl)
  | edge => exact edgeArrives_busBlind.sameButReceived
  | service => exact edgeService_sameButReceived hab
  | tick => exact BusBlind.sameButReceived (.of_next_nil fun _ _ => rfl)

/-- Settles O13: each input makes at most one exchange, reads of it the outcome and the bytes at offsets 2 to 4, and is
blind to the bus side otherwise. -/
theorem unusedInboundBytesDoNotMatter : Obligations.UnusedInboundBytesDoNotMatter :=
  fun e _ t _ _ _ hok h2 h3 h4 h => perform_sameButReceived ⟨hok, h2, h3, h4⟩ e t h

end Sys2Proof.Machine
end

section
/-! SUPPORT. The words of the RegisterCodec commands (spec 30_encoding.md rules R91, R98, R100): the opcode bytes that a
frame computes as sums are the encoder's, and further bits in `arg` make a word illegal. -/

namespace Sys2Proof

variable {arg : BitVec 32}

theorem rregOp_eq_append (addr : RegAddr) : 0x20 + addr.setWidth 8 = (0b001 : BitVec 3) ++ addr := by
  obtain ⟨-, hop⟩ := Machine.sampleIsTheBigEndianNumber
  exact (hop Config.defaultParams addr).1

theorem wregOp_eq_append (addr : RegAddr) : 0x40 + addr.setWidth 8 = (0b010 : BitVec 3) ++ addr := by
  obtain ⟨-, hop⟩ := Machine.sampleIsTheBigEndianNumber
  exact (hop Config.defaultParams addr).2

theorem decode_rregOp (addr : RegAddr) : decode (commandWord (0x20 + addr.setWidth 8) 0) = .ok (.rreg addr) := by
  rw [rregOp_eq_append]
  exact decode_encode (.rreg addr)

theorem decode_wregOp (addr : RegAddr) (value : Byte) :
    decode (commandWord (0x40 + addr.setWidth 8) (value.setWidth 32)) = .ok (.wreg addr value) := by
  have harg : value.setWidth 32 = (0 : BitVec 24) ++ value := BitVec.setWidth_eq_append (by decide)
  rw [wregOp_eq_append, harg]
  exact decode_encode (.wreg addr value)

/-- R100(b), format R. -/
theorem decode_rregOp_nonzeroArg (addr : RegAddr) (harg : arg ≠ 0) :
    decode (commandWord (0x20 + addr.setWidth 8) arg) = .error .nonzeroArg := by
  rw [rregOp_eq_append]
  simpa [decode] using harg

/-- R100(c). -/
theorem decode_wregOp_nonzeroArgHigh (addr : RegAddr) (harg : arg.extractLsb' 8 24 ≠ 0) :
    decode (commandWord (0x40 + addr.setWidth 8) arg) = .error .nonzeroArgHigh := by
  rw [wregOp_eq_append]
  simpa [decode] using harg

/-- The `op` byte of a format-N command is of no other format, and the decoder finds it. -/
theorem noOperandOps_op : ∀ c ∈ noOperandOps,
    c.1.extractLsb' 5 3 ≠ 0b001 ∧ c.1.extractLsb' 5 3 ≠ 0b010 ∧ c.1 ≠ 0x80 ∧ c.1 ≠ 0x81 ∧
      noOperandOps.lookup c.1 = some c.2 := by
  decide

/-- R100(b), format N. -/
theorem decode_noOperand_nonzeroArg {op : Byte} {i : Instr} (hmem : (op, i) ∈ noOperandOps) (harg : arg ≠ 0) :
    decode (commandWord op arg) = .error .nonzeroArg := by
  obtain ⟨hread, hwrite, hcreate, hadd, hlookup⟩ := noOperandOps_op _ hmem
  simp only [decode, decodeNoOperand, prefixField_commandWord, opField_commandWord, argField_commandWord, hread, hwrite,
    hcreate, hadd, hlookup, harg, if_false]

end Sys2Proof
end

section
/-! SUPPORT. The RegisterCodec commands (spec 41_register_codec.md rules R120 to R124): each makes one exchange and
responds what it reads of the received bytes. -/

namespace Sys2Proof.Machine

variable {s : State} {n : Nat} {tx : Vector Byte n} {k : Vector Byte n → Data}

/-! ### One exchange and the response to it -/

/-- The whole next state of an exchange that succeeds and of the response to it. -/
theorem endCodec_of_ok (h : n ≤ 6) (hok : s.exchangeOk tx.toList = true) :
    endCodec ((s.xferResult tx h).map k) (s.afterXfer tx h) = .next { s with
      answers := s.answers.tail
      trace := s.trace ++ [.xfer tx.toList (some (Answer.received (s.deviceAnswer tx.toList) n h).toList)]
      responses := s.responses ++ [⟨0x00, k (Answer.received (s.deviceAnswer tx.toList) n h)⟩] } := by
  rw [State.afterXfer, State.xferResult_of_ok h hok]
  rfl

/-- The whole next state of an exchange that fails and of the `BusError` that answers it. -/
theorem endCodec_of_failed (h : n ≤ 6) (hfail : s.exchangeOk tx.toList = false) :
    endCodec ((s.xferResult tx h).map k) (s.afterXfer tx h) = .next { s with
      answers := s.answers.tail
      trace := s.trace ++ [.xfer tx.toList none]
      responses := s.responses ++ [⟨0x05, 0⟩] } := by
  rw [State.afterXfer, State.xferResult_of_failed h hfail]
  rfl

/-- The pin does not matter to the response, so it may as well be raised after it. -/
theorem endCodec_startHigh (r : Option Data) (s : State) :
    endCodec r s.startHigh = andThen (endCodec r s) State.startHigh := by
  cases r <;> rfl

/-! ### The commands -/

theorem exec_rreg (addr : RegAddr) (s : State) :
    exec (.rreg addr) s = endCodec ((s.xferResult (readFrame s.params addr)).map fun rx => rx[2].setWidth 64)
      (s.afterXfer (readFrame s.params addr)) := rfl

theorem exec_wreg (addr : RegAddr) (value : Byte) (s : State) :
    exec (.wreg addr value) s =
      andThen (endCodec ((s.startLow.xferResult (writeFrame s.params addr value)).map fun _ => 0)
        (s.startLow.afterXfer (writeFrame s.params addr value))) State.startHigh :=
  endCodec_startHigh _ _

theorem exec_rdata (s : State) :
    exec .rdata s = endCodec ((s.xferResult (sampleFrame s.params)).map fun rx => (sampleOf rx).signExtend 64)
      (s.afterXfer (sampleFrame s.params)) :=
  congrArg (endCodec · _) (Option.map_map _ _ _)

theorem exec_sfocal (s : State) :
    exec .sfocal s = endCodec ((s.xferResult (calibrationFrame s.params)).map fun _ => 0)
      (s.afterXfer (calibrationFrame s.params)) := rfl

/-- D0's assembly of a sample: the sign of the first byte fills the byte above it. -/
theorem append_sign_eq_assembleSample (hi mid lo : Byte) :
    (if hi.getLsbD 7 then 0xFF else 0x00 : Byte) ++ hi ++ mid ++ lo = assembleSample hi mid lo := by
  have hsign (b : Byte) : ((if b.getLsbD 7 then 0xFF else 0x00 : Byte) ++ b).toInt = b.toInt := by
    revert b
    decide
  apply BitVec.eq_of_toInt_eq
  rw [assembleSample_toInt, BitVec.toInt_append, BitVec.toInt_append, hsign]
  simp only [beq_iff_eq]
  omega

/-- Settles O8: the third received byte answers the read frame. -/
theorem rregReturnsTheThirdByte : Obligations.RregReturnsTheThirdByte := by
  intro addr s op a
  refine ⟨fun hok => ?_, fun hfail => ?_, decode_rregOp addr, fun arg => decode_rregOp_nonzeroArg addr⟩
  · rw [exec_rreg, endCodec_of_ok _ hok]
    simp [op, a]
  · rw [exec_rreg, endCodec_of_failed _ hfail, readFrame_toList]

/-- Settles O9: the exchange is made from the state with the pin low, and the pin is high after it in both cases. -/
theorem wregBracketsTheWriteFrame : Obligations.WregBracketsTheWriteFrame := by
  intro addr value s op low a
  have hlow : low = s.startLow := rfl
  refine ⟨fun hok => ?_, fun hfail => ?_, decode_wregOp addr value, fun arg => decode_wregOp_nonzeroArgHigh addr⟩
  · rw [exec_wreg, endCodec_of_ok _ hok]
    simp [op, a, hlow, andThen, State.startHigh]
  · rw [exec_wreg, endCodec_of_failed _ hfail]
    simp [op, andThen, State.startHigh]

/-- Settles O10: the sample is read from the answer to the raw-sample frame. -/
theorem rdataReturnsTheSample : Obligations.RdataReturnsTheSample := by
  intro s tx a hi v
  refine ⟨fun hok => ?_, fun hfail => ?_, fun arg => decode_noOperand_nonzeroArg (i := .rdata) (by decide)⟩
  · have hv : v = sampleOf (Answer.received a 6 (by decide)) := by
      simp only [sampleOf, Answer.received_getElem]
      exact append_sign_eq_assembleSample _ _ _
    rw [exec_rdata, endCodec_of_ok _ hok, hv]
    simp [tx, a]
  · rw [exec_rdata, endCodec_of_failed _ hfail, sampleFrame_toList]

/-- Settles O11: the received bytes of the calibration frame are recorded and not read. -/
theorem sfocalSendsTheCalibrationFrame : Obligations.SfocalSendsTheCalibrationFrame := by
  intro s tx a
  refine ⟨fun hok => ?_, fun hfail => ?_, fun arg => decode_noOperand_nonzeroArg (i := .sfocal) (by decide)⟩
  · rw [exec_sfocal, endCodec_of_ok _ hok]
    simp [tx, a]
  · rw [exec_sfocal, endCodec_of_failed _ hfail, calibrationFrame_toList]

end Sys2Proof.Machine
end

section
/-! SUPPORT. The MovingAverageBuffer commands (spec 42_moving_average.md rules R140 to R145): what each does with a buffer
and without one. -/

namespace Sys2Proof.Machine

variable {s : State}

/-! ### Creation -/

theorem exec_mavCreate_of_zero {cap : BitVec 32} (h : cap.toNat = 0) :
    exec (.mavCreate cap) s = .next (s.raise .invalidCapacity) := if_pos h

theorem exec_mavCreate_of_gt {cap : BitVec 32} (h : 16384 < cap.toNat) :
    exec (.mavCreate cap) s = .next (s.raise .capacityExceeded) :=
  (if_neg (by omega)).trans (if_pos h)

theorem exec_mavCreate_of_le {cap : BitVec 32} (hpos : 1 ≤ cap.toNat) (hle : cap.toNat ≤ 16384) :
    exec (.mavCreate cap) s = .next ((s.installBuffer (cap.setWidth 15)).respond 0x00 0) :=
  (if_neg (by omega)).trans (if_neg (Nat.not_lt.mpr hle))

/-- Settles O14: a legal capacity fits the 15 bits of `CAP`. -/
theorem mavCreateByCapacity : Obligations.MavCreateByCapacity := by
  intro cap s
  refine ⟨exec_mavCreate_of_zero, exec_mavCreate_of_gt, fun hpos hle => ?_⟩
  exact ⟨cap.setWidth 15, setWidth_toNat_of_le hle, exec_mavCreate_of_le hpos hle⟩

/-! ### The push -/

/-- Settles O15: the two stores of a push, each by the laws of a write. -/
theorem mavAddWritesTheEntryAtHead : Obligations.MavAddWritesTheEntryAtHead := by
  intro v s
  have hother : ∀ j, j ≠ s.head.toNat → Memory.read (Memory.write s.buf s.head.toNat v) j = Memory.read s.buf j :=
    fun j => Memory.read_write_other s.buf v
  constructor
  · intro hroom
    exact ⟨_, Memory.read_write_same _ _ v, hother, State.mavAdd_of_room hroom⟩
  · intro old hfull hold
    exact ⟨_, Memory.read_write_same _ _ v, hother, State.mavAdd_of_full hfull hold⟩

theorem exec_mavAdd_of_buffer (v : Sample) (hb : s.bufValid = true) :
    exec (.mavAdd v) s = andThen (s.mavAdd v) (fun t => t.respondOk 0) := if_pos hb

theorem exec_mavAdd_of_noBuffer (v : Sample) (hb : s.bufValid = false) :
    exec (.mavAdd v) s = .next (s.raise .noBuffer) := if_neg (by simp [hb])

/-- Settles O16: with a buffer the command is the push of R141 and a response. -/
theorem mavAddCommandPushes : Obligations.MavAddCommandPushes := by
  intro v s
  obtain ⟨hroomPush, hfullPush⟩ := mavAddWritesTheEntryAtHead v s
  refine ⟨exec_mavAdd_of_noBuffer v, fun hb hroom => ?_, fun old hb hfull hold => ?_⟩
  · obtain ⟨m, hsame, hother, hpush⟩ := hroomPush hroom
    exact ⟨m, hsame, hother, by rw [exec_mavAdd_of_buffer v hb, hpush]; rfl⟩
  · obtain ⟨m, hsame, hother, hpush⟩ := hfullPush old hfull hold
    exact ⟨m, hsame, hother, by rw [exec_mavAdd_of_buffer v hb, hpush]; rfl⟩

/-! ### Clearing and reading out -/

theorem exec_mavAvg_of_buffer (hb : s.bufValid = true) : exec .mavAvg s = .next (s.respond 0x00 s.mean) :=
  congrArg Host.Outcome.next (if_pos hb)

theorem exec_mavAvg_of_noBuffer (hb : s.bufValid = false) : exec .mavAvg s = .next (s.raise .noBuffer) :=
  congrArg Host.Outcome.next (if_neg (by simp [hb]))

theorem exec_mavClear_of_buffer (hb : s.bufValid = true) :
    exec .mavClear s = .next (s.emptyBuffer.respond 0x00 0) := congrArg Host.Outcome.next (if_pos hb)

theorem exec_mavClear_of_noBuffer (hb : s.bufValid = false) : exec .mavClear s = .next (s.raise .noBuffer) :=
  congrArg Host.Outcome.next (if_neg (by simp [hb]))

theorem exec_mavSnap_of_buffer (hb : s.bufValid = true) :
    exec .mavSnap s = .next (s.respond 0x00 (snapshot s.count s.sum)) := congrArg Host.Outcome.next (if_pos hb)

theorem exec_mavSnap_of_noBuffer (hb : s.bufValid = false) : exec .mavSnap s = .next (s.raise .noBuffer) :=
  congrArg Host.Outcome.next (if_neg (by simp [hb]))

/-- Settles O19: with a buffer the three registers are cleared, without one the fault is `NoBuffer`. -/
theorem mavClearEmptiesTheBuffer : Obligations.MavClearEmptiesTheBuffer :=
  fun _ => ⟨exec_mavClear_of_noBuffer, exec_mavClear_of_buffer⟩

/-- Settles O20: the datum is the two registers side by side, so each field of it is one of them. -/
theorem mavSnapReturnsCountAndSum : Obligations.MavSnapReturnsCountAndSum := by
  intro s
  refine ⟨exec_mavSnap_of_noBuffer, fun hb => ⟨snapshot s.count s.sum, ?_, ?_, exec_mavSnap_of_buffer hb⟩⟩
  · exact BitVec.extractLsb'_append_eq_left
  · exact BitVec.extractLsb'_append_eq_right

end Sys2Proof.Machine
end

section
/-! SUPPORT. The sum of a list of signed samples (spec 10_state.md rule R28): its bounds, and that 48 bits hold it. -/

namespace Sys2Proof.Machine

@[simp] theorem sampleSum_nil : sampleSum [] = 0 := rfl

@[simp] theorem sampleSum_cons (v : Sample) (l : List Sample) : sampleSum (v :: l) = v.toInt + sampleSum l := rfl

@[simp] theorem sampleSum_append (l m : List Sample) : sampleSum (l ++ m) = sampleSum l + sampleSum m := by
  simp [sampleSum]

theorem sampleSum_eq_of_perm {l m : List Sample} (h : l.Perm m) : sampleSum l = sampleSum m :=
  (h.map BitVec.toInt).sum_eq

/-- A sample is a signed number of 32 bits, so `n` samples sum to a number between the `n`-fold ends of that range. -/
theorem sampleSum_bounds (l : List Sample) :
    -2147483648 * (l.length : Int) ≤ sampleSum l ∧ sampleSum l ≤ 2147483647 * (l.length : Int) := by
  induction l with
  | nil => simp
  | cons v l ih =>
    have hlo := BitVec.le_toInt v
    have hhi := BitVec.toInt_lt (x := v)
    rw [sampleSum_cons, List.length_cons]
    omega

/-- R28: at most 16384 samples sum to a number that 48 bits hold. -/
theorem bmod_sampleSum {l : List Sample} (h : l.length ≤ 16384) : (sampleSum l).bmod (2 ^ 48) = sampleSum l := by
  have hbounds := sampleSum_bounds l
  exact bmod_eq_of_abs_le (abs_le.mpr (by omega))

end Sys2Proof.Machine
end

section
/-! SUPPORT. The mean (spec 42_moving_average.md rule R143): every entry is a 32-bit number, so the quotient is one. -/

namespace Sys2Proof.Machine

variable {s : State}

/-- A quotient rounded toward zero lies between two integers whose multiples enclose the dividend. -/
theorem tdiv_bounds {a b lo hi : Int} (hb : 0 < b) (hlo : lo * b ≤ a) (hhi : a ≤ hi * b) :
    lo ≤ a.tdiv b ∧ a.tdiv b ≤ hi := by
  constructor
  · exact (Int.mul_tdiv_cancel lo hb.ne').symm.trans_le (Int.tdiv_le_tdiv hb hlo)
  · exact (Int.tdiv_le_tdiv hb hhi).trans_eq (Int.mul_tdiv_cancel hi hb.ne')

theorem State.mean_of_empty (h : s.count = 0) : s.mean = 0 := if_pos h

theorem State.mean_of_nonempty (h : s.count ≠ 0) : s.mean = (quotient s.sum s.count).signExtend 64 := if_neg h

theorem BlockInv.quotient_bounds (h : BlockInv s) (hb : s.bufValid = true) (hcount : s.count ≠ 0) :
    -2147483648 ≤ s.sum.toInt.tdiv s.count.toNat ∧ s.sum.toInt.tdiv s.count.toNat ≤ 2147483647 := by
  have hpos : 0 < s.count.toNat := Nat.pos_of_ne_zero fun hzero => hcount (BitVec.eq_of_toNat_eq hzero)
  have hlen : s.filled.length ≤ s.count.toNat := by
    calc s.filled.length ≤ (List.range s.count.toNat).length := List.length_filterMap_le _ _
      _ = s.count.toNat := List.length_range
  have hbounds := sampleSum_bounds s.filled
  rw [← h.sumExact hb] at hbounds
  exact tdiv_bounds (by omega) (by omega) (by omega)

/-- Settles O18: the datum is the quotient cut to 32 bits, and under the invariants the cut loses nothing. -/
theorem mavAvgReturnsTheQuotient : Obligations.MavAvgReturnsTheQuotient := by
  intro s
  refine ⟨exec_mavAvg_of_noBuffer, fun hb hempty => ?_, fun hb hcount => ?_, fun h hb hcount => ?_⟩
  · rw [exec_mavAvg_of_buffer hb, State.mean_of_empty hempty]
    rfl
  · rw [exec_mavAvg_of_buffer hb, State.mean_of_nonempty hcount]
    rfl
  · obtain ⟨hlo, hhi⟩ := h.quotient_bounds hb hcount
    refine ⟨hlo, hhi, ?_⟩
    rw [BitVec.toInt_signExtend_of_le (by decide),
      BitVec.toInt_ofInt_eq_self (by decide) hlo (Int.lt_add_one_iff.mpr hhi)]

end Sys2Proof.Machine
end

section
/-! SUPPORT. Lists that keep their last elements. -/

namespace Sys2Proof.Machine

variable {α : Type} {n : Nat}

theorem lastN_of_length_le {l : List α} (h : l.length ≤ n) : lastN n l = l := by
  rw [lastN, Nat.sub_eq_zero_of_le h, List.drop_zero]

/-- A queue that is full loses its oldest element to a new one. -/
theorem lastN_cons_append {a : α} {l : List α} (b : α) (h : (a :: l).length = n) :
    lastN n (a :: l ++ [b]) = l ++ [b] := by
  subst n
  simp [lastN]

/-- What a queue drops stays dropped: appending to what it keeps is appending to all of it. -/
theorem lastN_lastN_append (l m : List α) : lastN n (lastN n l ++ m) = lastN n (l ++ m) := by
  simp only [lastN, List.drop_append, List.drop_drop, List.length_append, List.length_drop]
  congr 2 <;> omega

theorem length_lastN (l : List α) : (lastN n l).length = min l.length n := by
  rw [lastN, List.length_drop]
  omega

end Sys2Proof.Machine
end

section
/-! SUPPORT. The ring of entries as a queue (spec 10_state.md rules R27 to R29): the entries from the oldest on, around
the ring. -/

namespace Sys2Proof.Machine

variable {s : State} {q : List Sample}

/-- The entry at a distance from the oldest one, around the ring. -/
def State.slot (s : State) (j : Nat) : Option Sample := Memory.read s.buf ((s.oldestIndex + j) % s.cap.toNat)

theorem State.recent_eq (s : State) : s.recent = (List.range s.count.toNat).filterMap s.slot := rfl

theorem State.oldestIndex_of_full (h : s.count = s.cap) : s.oldestIndex = s.head.toNat := if_pos h

theorem State.oldestIndex_of_room (h : s.count ≠ s.cap) : s.oldestIndex = 0 := if_neg h

/-- R27: until the buffer is full the oldest entry is at index 0, so a distance from it is an index. -/
theorem State.oldestIndex_add_mod_of_room (h : s.count ≠ s.cap) {j : Nat} (hj : j < s.cap.toNat) :
    (s.oldestIndex + j) % s.cap.toNat = j := by
  rw [State.oldestIndex_of_room h, Nat.zero_add, Nat.mod_eq_of_lt hj]

/-- The buffer of `s` holds the values `q`, oldest first, and `SUM` is their sum: what R27 to R29 say of a buffer, in
terms of the queue it stands for. -/
structure State.HoldsQueue (s : State) (q : List Sample) : Prop where
  bufValid : s.bufValid = true
  capRange : 1 ≤ s.cap.toNat ∧ s.cap.toNat ≤ 16384
  countLe : s.count.toNat ≤ s.cap.toNat
  head : s.head.toNat = (s.oldestIndex + s.count.toNat) % s.cap.toNat
  entries : (List.range s.count.toNat).map s.slot = q.map some
  sum : s.sum.toInt = sampleSum q

theorem State.HoldsQueue.length_eq (h : s.HoldsQueue q) : q.length = s.count.toNat := by
  simpa using (congrArg List.length h.entries).symm

theorem State.HoldsQueue.length_le (h : s.HoldsQueue q) : q.length ≤ s.cap.toNat := h.length_eq.trans_le h.countLe

theorem State.HoldsQueue.recent_eq (h : s.HoldsQueue q) : s.recent = q := by
  calc s.recent = ((List.range s.count.toNat).map s.slot).filterMap id := by rw [List.filterMap_map]; rfl
    _ = (q.map some).filterMap id := by rw [h.entries]
    _ = q := by rw [List.filterMap_map]; exact List.filterMap_some

theorem State.HoldsQueue.respond (h : s.HoldsQueue q) (st : BitVec 8) (d : Data) : (s.respond st d).HoldsQueue q :=
  { h with }

theorem State.HoldsQueue.withInputs (h : s.HoldsQueue q) (l : List Input) :
    State.HoldsQueue { s with inputs := l } q := { h with }

theorem State.installBuffer_holdsQueue {c : Capacity} (hpos : 1 ≤ c.toNat) (hle : c.toNat ≤ 16384) :
    (s.installBuffer c).HoldsQueue [] where
  bufValid := rfl
  capRange := ⟨hpos, hle⟩
  countLe := Nat.zero_le _
  head := by simp [State.oldestIndex]
  entries := rfl
  sum := rfl

/-! ### The invariants say that the buffer is a queue -/

/-- The indices of a full ring, from any one on, are all the indices. -/
theorem perm_range_rotated (i n : Nat) : ((List.range n).map fun j => (i + j) % n).Perm (List.range n) := by
  have hcoe := Nat.multiset_Ico_map_mod i n
  have hlist : Multiset.Ico i (i + n) = ((List.range' i n : List Nat) : Multiset Nat) :=
    congrArg (fun k => ((List.range' i k : List Nat) : Multiset Nat)) (Nat.add_sub_cancel_left i n)
  rw [hlist, List.range'_eq_map_range] at hcoe
  simpa [Function.comp_def] using Multiset.coe_eq_coe.mp hcoe

/-- The filled entries by age are the filled entries by index, in another order. -/
theorem BlockInv.recent_perm_filled (h : BlockInv s) (hb : s.bufValid = true) : s.recent.Perm s.filled := by
  have hrecent : s.recent = ((List.range s.count.toNat).map fun j => (s.oldestIndex + j) % s.cap.toNat).filterMap
      (Memory.read s.buf) := by rw [List.filterMap_map]; rfl
  rw [hrecent]
  refine List.Perm.filterMap _ ?_
  by_cases hfull : s.count = s.cap
  · rw [hfull]
    exact perm_range_rotated _ _
  · have hid : ∀ j ∈ List.range s.count.toNat, (s.oldestIndex + j) % s.cap.toNat = j := fun j hj =>
      State.oldestIndex_add_mod_of_room hfull ((List.mem_range.mp hj).trans_le (h.countLe hb))
    rw [List.map_congr_left hid, List.map_id']

/-- R29: each of the `COUNT` entries from the oldest on holds a value. -/
theorem BlockInv.slot_isSome (h : BlockInv s) (hb : s.bufValid = true) {j : Nat} (hj : j < s.count.toNat) :
    (s.slot j).isSome = true := by
  have hindex : (s.oldestIndex + j) % s.cap.toNat < s.count.toNat := by
    by_cases hfull : s.count = s.cap
    · rw [hfull]
      exact Nat.mod_lt _ (h.capRange hb).1
    · rwa [State.oldestIndex_add_mod_of_room hfull (hj.trans_le (h.countLe hb))]
  exact Option.isSome_iff_exists.mpr (h.filledHoldValues hb _ hindex)

/-- R27: `HEAD` is the index after the newest entry. -/
theorem BlockInv.head_eq (h : BlockInv s) (hb : s.bufValid = true) :
    s.head.toNat = (s.oldestIndex + s.count.toNat) % s.cap.toNat := by
  by_cases hfull : s.count = s.cap
  · rw [State.oldestIndex_of_full hfull, hfull, Nat.add_mod_right, Nat.mod_eq_of_lt (h.headLt hb)]
  · have hlt : s.count.toNat < s.cap.toNat := BitVec.lt_of_le_ne (h.countLe hb) hfull
    rw [State.oldestIndex_add_mod_of_room hfull hlt, h.headEqCount hb hlt]

theorem BlockInv.holdsQueue (h : BlockInv s) (hb : s.bufValid = true) : s.HoldsQueue s.recent where
  bufValid := hb
  capRange := h.capRange hb
  countLe := h.countLe hb
  head := h.head_eq hb
  entries := by
    have hall : ∀ o ∈ (List.range s.count.toNat).map s.slot, o.isSome = true := by
      simpa using fun j => h.slot_isSome hb (j := j)
    rw [State.recent_eq, List.map_filterMap_some_eq_filter_map_isSome, List.filter_eq_self.mpr hall]
  sum := (h.sumExact hb).trans (sampleSum_eq_of_perm (h.recent_perm_filled hb)).symm

end Sys2Proof.Machine
end

section
/-! SUPPORT. `MavAdd` as the push onto the queue (spec 42_moving_average.md rule R141). -/

namespace Sys2Proof.Machine

variable {s : State} {q : List Sample} {v : Sample}

/-- R28: the 48-bit sum of a store is the exact one when its base is, up to 48 bits. -/
theorem State.storeSample_sum_toInt {base : RunningSum} {c : Capacity} (hlen : q.length < 16384)
    (hbase : base.toInt = (sampleSum q).bmod (2 ^ 48)) :
    (s.storeSample v base c).sum.toInt = sampleSum (q ++ [v]) := by
  rw [State.storeSample_sum, BitVec.toInt_add, sext48_toInt, hbase, Int.bmod_add_bmod]
  simpa using bmod_sampleSum (l := q ++ [v]) (by simpa using hlen)

/-- After a store a slot is the entry at its index, the new value where that index is `HEAD`. -/
theorem State.storeSample_slot (s : State) (v : Sample) (base : RunningSum) (c : Capacity) {i j : Nat}
    (hi : ((s.storeSample v base c).oldestIndex + j) % s.cap.toNat = i) :
    (s.storeSample v base c).slot j = if i = s.head.toNat then some v else Memory.read s.buf i := by
  rw [State.slot, State.storeSample_cap, hi, State.storeSample_read]

/-- A store leaves the queue `p` with the new value behind it when the entries it keeps are those of `p`, `HEAD` is the
index after them, and the sum it adds to is theirs up to 48 bits. -/
theorem State.HoldsQueue.storeSample (h : s.HoldsQueue q) {p : List Sample} {base : RunningSum} {c : Capacity}
    (hcount : c.toNat = p.length + 1) (hle : p.length < s.cap.toNat)
    (hhead : ((s.storeSample v base c).oldestIndex + p.length) % s.cap.toNat = s.head.toNat)
    (hkept : (List.range p.length).map (s.storeSample v base c).slot = p.map some)
    (hbase : base.toInt = (sampleSum p).bmod (2 ^ 48)) : (s.storeSample v base c).HoldsQueue (p ++ [v]) where
  bufValid := h.bufValid
  capRange := h.capRange
  countLe := hcount.trans_le hle
  head := by
    rw [State.storeSample_head, nextIndex_toNat s.head h.capRange.1 h.capRange.2, State.storeSample_count,
      State.storeSample_cap, hcount, ← Nat.add_assoc, ← hhead, Nat.mod_add_mod]
  entries := by
    have hnew : (s.storeSample v base c).slot p.length = some v :=
      (State.storeSample_slot s v base c hhead).trans (if_pos rfl)
    rw [State.storeSample_count, hcount, List.range_succ, List.map_append, hkept, List.map_append, List.map_singleton,
      hnew, List.map_singleton]
  sum := State.storeSample_sum_toInt (hle.trans_le h.capRange.2) hbase

theorem State.HoldsQueue.count_lt (h : s.HoldsQueue q) (hroom : s.count ≠ s.cap) : s.count.toNat < s.cap.toNat :=
  BitVec.lt_of_le_ne h.countLe hroom

theorem State.HoldsQueue.head_eq_of_room (h : s.HoldsQueue q) (hroom : s.count ≠ s.cap) :
    s.head.toNat = s.count.toNat := by
  rw [h.head, State.oldestIndex_add_mod_of_room hroom (h.count_lt hroom)]

/-- R27: the oldest entry stays at index 0 up to the store that fills the buffer, which brings `HEAD` back to 0. -/
theorem State.HoldsQueue.oldestIndex_storeSample_of_room (h : s.HoldsQueue q) (hroom : s.count ≠ s.cap)
    {base : RunningSum} {c : Capacity} (hcount : c.toNat = s.count.toNat + 1) :
    (s.storeSample v base c).oldestIndex = 0 := by
  by_cases hfull : c = s.cap
  · rw [State.oldestIndex_of_full (s := s.storeSample v base c) hfull, State.storeSample_head,
      nextIndex_toNat s.head h.capRange.1 h.capRange.2, h.head_eq_of_room hroom, ← hcount, hfull, Nat.mod_self]
  · exact State.oldestIndex_of_room hfull

/-- A buffer with room gains the value behind the others. -/
theorem State.HoldsQueue.storeSample_of_room (h : s.HoldsQueue q) (hroom : s.count ≠ s.cap) :
    (s.storeSample v s.sum (s.count + 1)).HoldsQueue (q ++ [v]) := by
  have hlen := h.length_eq
  have hlt := h.count_lt hroom
  have hhead := h.head_eq_of_room hroom
  have hsucc : (s.count + 1).toNat = s.count.toNat + 1 := by bv_omega
  have holdest := h.oldestIndex_storeSample_of_room (v := v) (base := s.sum) hroom hsucc
  have hindex {j : Nat} (hj : j ≤ s.count.toNat) :
      ((s.storeSample v s.sum (s.count + 1)).oldestIndex + j) % s.cap.toNat = j := by
    rw [holdest, Nat.zero_add, Nat.mod_eq_of_lt (hj.trans_lt hlt)]
  have hslot : ∀ j ∈ List.range s.count.toNat, (s.storeSample v s.sum (s.count + 1)).slot j = s.slot j := by
    intro j hj
    have hj := List.mem_range.mp hj
    rw [State.storeSample_slot s v _ _ (hindex hj.le), if_neg (by omega), State.slot,
      State.oldestIndex_add_mod_of_room hroom (hj.trans hlt)]
  refine h.storeSample (hlen ▸ hsucc) (hlen ▸ hlt) ?_ ?_ ?_
  · rw [hlen, hindex le_rfl, hhead]
  · rw [hlen, List.map_congr_left hslot, h.entries]
  · rw [h.sum, bmod_sampleSum (h.length_le.trans h.capRange.2)]

/-- The oldest value and the others, as the slots give them. -/
theorem State.HoldsQueue.entries_cons {old : Sample} (h : s.HoldsQueue (old :: q)) :
    s.slot 0 = some old ∧ (List.range q.length).map (fun j => s.slot (j + 1)) = q.map some := by
  have hentries := h.entries
  rw [← h.length_eq, List.length_cons, List.range_succ_eq_map, List.map_cons, List.map_cons, List.map_map] at hentries
  exact List.cons.inj hentries

theorem State.HoldsQueue.head_lt (h : s.HoldsQueue q) : s.head.toNat < s.cap.toNat :=
  h.head ▸ Nat.mod_lt _ h.capRange.1

/-- The oldest value of a full buffer is the one at `HEAD`. -/
theorem State.HoldsQueue.read_head {old : Sample} (h : s.HoldsQueue (old :: q)) (hfull : s.count = s.cap) :
    Memory.read s.buf s.head.toNat = some old := by
  rw [← h.entries_cons.1, State.slot, State.oldestIndex_of_full hfull, Nat.add_zero, Nat.mod_eq_of_lt h.head_lt]

/-- Fewer steps than the ring is long do not come back to where they began. -/
theorem add_mod_ne_self {i k n : Nat} (hi : i < n) (hpos : 0 < k) (hk : k < n) : (i + k) % n ≠ i := by
  intro heq
  have hmod : i + k ≡ i + 0 [MOD n] := heq.trans (Nat.mod_eq_of_lt hi).symm
  exact absurd (Nat.le_of_dvd hpos ((Nat.modEq_zero_iff_dvd).mp hmod.add_left_cancel')) (by omega)

/-- A full buffer loses its oldest value and gains the new one behind the others. -/
theorem State.HoldsQueue.storeSample_of_full {old : Sample} (h : s.HoldsQueue (old :: q)) (hfull : s.count = s.cap) :
    (s.storeSample v (s.sum - sext48 old) s.count).HoldsQueue (q ++ [v]) := by
  have hhead := h.head_lt
  have hcount : s.count.toNat = q.length + 1 := h.length_eq.symm
  have hlen : q.length + 1 = s.cap.toNat := hfull ▸ hcount.symm
  have holdest : (s.storeSample v (s.sum - sext48 old) s.count).oldestIndex = (s.head.toNat + 1) % s.cap.toNat := calc
    _ = (nextIndex s.head s.cap).toNat := if_pos hfull
    _ = _ := nextIndex_toNat s.head h.capRange.1 h.capRange.2
  have hindex (j : Nat) : ((s.storeSample v (s.sum - sext48 old) s.count).oldestIndex + j) % s.cap.toNat =
      (s.head.toNat + (j + 1)) % s.cap.toNat := by
    rw [holdest, Nat.mod_add_mod, Nat.add_assoc, Nat.add_comm 1]
  have hslot : ∀ j ∈ List.range q.length,
      (s.storeSample v (s.sum - sext48 old) s.count).slot j = s.slot (j + 1) := by
    intro j hj
    have hj := List.mem_range.mp hj
    rw [State.storeSample_slot s v _ _ (hindex j), if_neg (add_mod_ne_self hhead (by omega) (by omega)), State.slot,
      State.oldestIndex_of_full hfull]
  refine h.storeSample hcount (by omega) ?_ ?_ ?_
  · rw [hindex, hlen, Nat.add_mod_right, Nat.mod_eq_of_lt hhead]
  · rw [List.map_congr_left hslot, h.entries_cons.2]
  · rw [BitVec.toInt_sub, h.sum, sext48_toInt, sampleSum_cons, add_sub_cancel_left]

/-- R141: the push keeps the most recent `CAP` values. -/
theorem State.HoldsQueue.mavAdd (h : s.HoldsQueue q) (v : Sample) :
    ∃ t, s.mavAdd v = .next t ∧ t.HoldsQueue (lastN s.cap.toNat (q ++ [v])) := by
  have hlen := h.length_eq
  by_cases hfull : s.count = s.cap
  · rw [hfull] at hlen
    obtain ⟨old, rest, rfl⟩ := List.exists_cons_of_length_pos (hlen ▸ h.capRange.1)
    rw [lastN_cons_append v hlen]
    exact ⟨_, State.mavAdd_of_full hfull (h.read_head hfull), h.storeSample_of_full hfull⟩
  · have hlt := h.count_lt hfull
    rw [lastN_of_length_le (by rw [List.length_append, List.length_singleton]; omega)]
    exact ⟨_, State.mavAdd_of_room hfull, h.storeSample_of_room hfull⟩

/-- Settles O21: the invariants say that the buffer is a queue, and the push onto it keeps the sum exact. -/
theorem mavAddKeepsTheMostRecent : Obligations.MavAddKeepsTheMostRecent := by
  intro v s h hb
  obtain ⟨t, ht, hqueue⟩ := (h.holdsQueue hb).mavAdd v
  exact ⟨t, ht, hqueue.recent_eq, hqueue.recent_eq.symm ▸ hqueue.sum⟩

end Sys2Proof.Machine
end

section
/-! SUPPORT. Runs of buffer commands (spec 42_moving_average.md rules R140, R141; 95_test_vectors.md E6). -/

namespace Sys2Proof.Machine

variable {s t : State} {q : List Sample}

/-- A run whose first input is the word of a command begins with that command's meaning. -/
theorem run_succ_of_command {i : Instr} {rest : List Input} {k : Nat} (hinputs : s.inputs = .command (encode i) :: rest)
    (hexec : exec i { s with inputs := rest } = .next t) : core.run (k + 1) s = core.run k t := by
  have hstep : core.step s = .next t := calc
    step s = exec i { s with inputs := rest } := stepRunsTheDecodedCommand s _ rest i hinputs (decode_encode i)
    _ = .next t := hexec
  simp only [Host.Core.run, hstep]

/-- `MAV_ADD` pushes onto the queue, and takes no input and no capacity away. -/
theorem State.HoldsQueue.exec_mavAdd (h : s.HoldsQueue q) (v : Sample) :
    ∃ t, exec (.mavAdd v) s = .next t ∧ t.HoldsQueue (lastN s.cap.toNat (q ++ [v])) ∧ t.cap = s.cap ∧
      t.inputs = s.inputs := by
  obtain ⟨t, ht, hqueue⟩ := h.mavAdd v
  obtain ⟨base, c, rfl⟩ := State.mavAdd_next_storeSample ht
  exact ⟨_, by rw [exec_mavAdd_of_buffer v h.bufValid, ht]; rfl, hqueue.respond _ _, rfl, rfl⟩

/-- Any pushes onto the queue leave its most recent `CAP` values. -/
theorem State.HoldsQueue.run_mavAdds (h : s.HoldsQueue q) (vs : List Sample)
    (hinputs : s.inputs = vs.map fun v => .command (encode (.mavAdd v))) :
    ∃ t, core.run vs.length s = .next t ∧ t.HoldsQueue (lastN s.cap.toNat (q ++ vs)) ∧ t.cap = s.cap := by
  induction vs generalizing s q with
  | nil =>
    rw [List.append_nil, lastN_of_length_le h.length_le]
    exact ⟨s, rfl, h, rfl⟩
  | cons v vs ih =>
    obtain ⟨u, hexec, hu, hcap, hrest⟩ := (h.withInputs _).exec_mavAdd v
    obtain ⟨t, hrun, ht, htcap⟩ := ih hu hrest
    refine ⟨t, (run_succ_of_command hinputs hexec).trans hrun, ?_, htcap.trans hcap⟩
    rwa [hcap, lastN_lastN_append, List.append_assoc] at ht

/-- Settles O22: the new buffer is the empty queue, and the pushes follow. -/
theorem pushesAfterCreateKeepTheLastValues : Obligations.PushesAfterCreateKeepTheLastValues := by
  intro s cap vs hpos hle
  have hcap := setWidth_toNat_of_le hle
  have hempty : (s.installBuffer (cap.setWidth 15)).HoldsQueue [] :=
    State.installBuffer_holdsQueue (hcap ▸ hpos) (hcap ▸ hle)
  obtain ⟨t, hrun, ht, htcap⟩ := ((hempty.respond 0x00 0).withInputs _).run_mavAdds vs rfl
  have htcap : t.cap.toNat = cap.toNat := (congrArg BitVec.toNat htcap).trans hcap
  have hqueue : t.HoldsQueue (lastN cap.toNat vs) := hcap ▸ ht
  refine ⟨t, ?_, hqueue.recent_eq, ?_, htcap, hqueue.sum⟩
  · rw [List.map_cons, List.map_map]
    exact (run_succ_of_command rfl (exec_mavCreate_of_le hpos hle)).trans hrun
  · rw [← hqueue.length_eq, length_lastN]

end Sys2Proof.Machine
end

section
/-! SUPPORT. Runs over a schedule (spec 20_memory.md rule R70; the list of inputs is log entry 1): what every performed
input keeps, a run keeps. -/

namespace Sys2Proof.Machine

variable {s t : State} {e : Input}

/-- Performing an input leaves the rest of the schedule as it is. -/
theorem perform_inputs (h : perform e s = .next t) : t.inputs = s.inputs := by
  cases perform_effect h with
  | _ => simp

/-- A relation between the schedule that is left and the state, one that every performed input keeps and that does not
look at the model's own `inputs`, holds to the end of a run. -/
theorem run_keeps {I : List Input → State → Prop} (hinputs : ∀ l s rest, I l s → I l { s with inputs := rest })
    (hperform : ∀ e l s t, I (e :: l) s → perform e s = .next t → I l t) {k : Nat} (h : I s.inputs s)
    (hrun : core.run k s = .next t) : I t.inputs t := by
  induction k generalizing s with
  | zero => cases hrun; exact h
  | succ k ih =>
    simp only [Host.Core.run] at hrun
    split at hrun
    · next u hstep =>
      refine ih ?_ hrun
      obtain ⟨-, rfl⟩ | ⟨e, rest, hs, hu⟩ := step_next hstep
      · exact h
      · rw [perform_inputs hu]
        exact hperform e rest _ u (hinputs _ _ rest (hs ▸ h)) hu
    · cases hrun
    · cases hrun

end Sys2Proof.Machine
end

section
/-! SUPPORT. The window (spec 10_state.md rule R31, 43_acquisition.md rules R161, R163, R164): once it is closed, the
count and the start of it stand still until the next `WIN_OPEN`. -/

namespace Sys2Proof.Machine

variable {s t s₀ : State} {e : Input} {l : List Input}

theorem State.inWindow_eq_false_iff :
    s.inWindow = false ↔ s.winArmed = false ∨ ¬ s.time - s.windowStart < s.params.windowTicks := by
  rw [← Bool.not_eq_true, State.inWindow_iff, not_and_or, Bool.not_eq_true]

/-- Settles O24: the command is its three writes and the response. -/
theorem winOpenStartsTheWindow : Obligations.WinOpenStartsTheWindow := fun _ => rfl

theorem exec_winPoll_of_inWindow (hw : s.inWindow = true) : exec .winPoll s = .next (s.respond 0x00 1) :=
  congrArg Host.Outcome.next (if_pos hw)

theorem exec_winPoll_of_outside (hw : s.inWindow = false) : exec .winPoll s = .next (s.closeWindow.respond 0x00 0) :=
  congrArg Host.Outcome.next (if_neg (by simp [hw]))

/-- R161: outside a window a service counts no edge. -/
theorem edgeService_edgeCount_of_outside (hw : s.inWindow = false) (h : edgeService s = .next t) :
    t.edgeCount = s.edgeCount := by
  cases edgeService_effect h with
  | countEdge hin => exact absurd (hw.symm.trans hin) (by decide)
  | _ => simp

/-- The window is closed, its count and its start are those of `s₀`, and the schedule `l` holds no `WIN_OPEN`. -/
structure WindowFrozen (s₀ : State) (l : List Input) (s : State) : Prop where
  closed : s.winArmed = false
  edgeCount : s.edgeCount = s₀.edgeCount
  windowStart : s.windowStart = s₀.windowStart
  noOpen : ∀ w, .command w ∈ l → decode w ≠ .ok .winOpen

theorem WindowFrozen.perform (h : WindowFrozen s₀ (e :: l) s) (ht : perform e s = .next t) : WindowFrozen s₀ l t := by
  obtain ⟨hstart, hcount, harmed⟩ :=
    windowRegistersHaveTheirWriters e s t ht fun w he => h.noOpen w (he ▸ List.mem_cons_self)
  have hedgeCount : t.edgeCount = s.edgeCount := by
    by_cases he : e = .service
    · subst he
      exact edgeService_edgeCount_of_outside (State.inWindow_eq_false_iff.mpr (.inl h.closed)) ht
    · exact hcount he
  exact {
    closed := Bool.eq_false_iff.mpr fun hopen => absurd (h.closed.symm.trans (harmed hopen)) (by decide)
    edgeCount := hedgeCount.trans h.edgeCount
    windowStart := hstart.trans h.windowStart
    noOpen := fun w hmem => h.noOpen w (List.mem_cons_of_mem e hmem) }

/-- Settles O25: the poll is a case split on the window predicate, and a run without `WIN_OPEN` keeps a closed window
frozen. -/
theorem winPollReportsAndFreezes : Obligations.WinPollReportsAndFreezes := by
  refine ⟨fun s harmed hlt => exec_winPoll_of_inWindow (State.inWindow_iff.mpr ⟨harmed, hlt⟩),
    fun s hout => exec_winPoll_of_outside (State.inWindow_eq_false_iff.mpr hout), fun k s t hclosed hopen hrun => ?_⟩
  have hfrozen : WindowFrozen s t.inputs t :=
    run_keeps (fun _ _ _ h => { h with }) (fun _ _ _ _ => WindowFrozen.perform) ⟨hclosed, rfl, rfl, hopen⟩ hrun
  exact ⟨hfrozen.edgeCount, hfrozen.windowStart, hfrozen.closed⟩

end Sys2Proof.Machine
end

section
/-! SUPPORT. The interrupt switched off (spec 43_acquisition.md rules R160, R161, R172): a service needs a pending edge,
an edge becomes pending only while the interrupt is enabled, and only `IRQ_EN` enables it. -/

namespace Sys2Proof.Machine

variable {s t s₀ : State} {e : Input} {l : List Input}

theorem edgeService_of_notPending (hp : s.edgePending = false) : edgeService s = .refused .serviceNotEnabled := by
  simp [edgeService, hp]

theorem ne_service_of_perform (hp : s.edgePending = false) (h : perform e s = .next t) : e ≠ .service := by
  rintro rfl
  cases (edgeService_of_notPending hp).symm.trans h

theorem edgeEn_perform_of_disabled (hen : s.edgeEn = false) (hirq : ∀ w, e = .command w → decode w ≠ .ok .irqEn)
    (h : perform e s = .next t) : t.edgeEn = false := by
  cases perform_effect h with
  | enable hd => exact absurd hd (hirq _ rfl)
  | _ => simp [hen]

theorem edgePending_perform_of_notPending (hp : s.edgePending = false) (hedge : e = .edge → s.edgeEn = false)
    (h : perform e s = .next t) : t.edgePending = false := by
  cases perform_effect h with
  | latchEdge hen => exact absurd ((hedge rfl).symm.trans hen) (by decide)
  | _ => simp [hp]

/-! ### A schedule that latches no edge -/

/-- Performed from `EDGE_EN = en`, the schedule lets no edge find the interrupt enabled: an edge-free part follows a
part that does not enable the interrupt, which is empty unless the interrupt is disabled. -/
def LatchesNoEdge (en : Bool) (inputs : List Input) : Prop :=
  ∃ l m, inputs = l ++ m ∧ (l ≠ [] → en = false) ∧ (∀ w, .command w ∈ l → decode w ≠ .ok .irqEn) ∧ .edge ∉ m

theorem LatchesNoEdge.of_edgeFree {en : Bool} (hedge : .edge ∉ l) : LatchesNoEdge en l :=
  ⟨[], l, rfl, fun hne => absurd rfl hne, fun _ hmem => absurd hmem List.not_mem_nil, hedge⟩

theorem LatchesNoEdge.of_noEnable (hirq : ∀ w, .command w ∈ l → decode w ≠ .ok .irqEn) : LatchesNoEdge false l :=
  ⟨l, [], (List.append_nil l).symm, fun _ => rfl, hirq, List.not_mem_nil⟩

/-- An edge that comes next finds the interrupt disabled. -/
theorem LatchesNoEdge.disabled_of_edge {en : Bool} (h : LatchesNoEdge en (.edge :: l)) : en = false := by
  obtain ⟨_ | ⟨e, l⟩, m, heq, hen, -, hedge⟩ := h
  · rw [List.nil_append] at heq
    exact absurd (heq ▸ List.mem_cons_self) hedge
  · exact hen (List.cons_ne_nil e l)

theorem LatchesNoEdge.perform (h : LatchesNoEdge s.edgeEn (e :: l)) (ht : perform e s = .next t) :
    LatchesNoEdge t.edgeEn l := by
  obtain ⟨_ | ⟨e', l'⟩, m, heq, hen, hirq, hedge⟩ := h
  · rw [List.nil_append] at heq
    exact .of_edgeFree fun hmem => hedge (heq ▸ List.mem_cons_of_mem e hmem)
  · obtain ⟨rfl, rfl⟩ := List.cons.inj heq
    have hdisabled : t.edgeEn = false := edgeEn_perform_of_disabled (hen (List.cons_ne_nil e l'))
      (fun w he => hirq w (he ▸ List.mem_cons_self)) ht
    exact ⟨l', m, rfl, fun _ => hdisabled, fun w hmem => hirq w (List.mem_cons_of_mem e hmem), hedge⟩

/-! ### Runs without a service -/

/-- No edge is pending, the schedule `l` latches none, and the last sample is that of `s₀`. -/
structure NoServiceDue (s₀ : State) (l : List Input) (s : State) : Prop where
  notPending : s.edgePending = false
  latchesNone : LatchesNoEdge s.edgeEn l
  lastSample : s.lastSample = s₀.lastSample
  lastValid : s.lastValid = s₀.lastValid

theorem NoServiceDue.perform (h : NoServiceDue s₀ (e :: l) s) (ht : perform e s = .next t) : NoServiceDue s₀ l t := by
  obtain ⟨hsample, hvalid⟩ := onlyTheServiceWritesLastSample e s t ht (ne_service_of_perform h.notPending ht)
  exact {
    notPending := edgePending_perform_of_notPending h.notPending (fun he => (he ▸ h.latchesNone).disabled_of_edge) ht
    latchesNone := h.latchesNone.perform ht
    lastSample := hsample.trans h.lastSample
    lastValid := hvalid.trans h.lastValid }

/-- A run over a schedule that latches no edge leaves none pending and the last sample as it was. -/
theorem run_of_latchesNoEdge {k : Nat} (hp : s.edgePending = false) (hl : LatchesNoEdge s.edgeEn s.inputs)
    (hrun : core.run k s = .next t) :
    t.edgePending = false ∧ t.lastSample = s.lastSample ∧ t.lastValid = s.lastValid ∧
      edgeService t = .refused .serviceNotEnabled := by
  have h : NoServiceDue s t.inputs t :=
    run_keeps (fun _ _ _ h => { h with }) (fun _ _ _ _ => NoServiceDue.perform) ⟨hp, hl, rfl, rfl⟩ hrun
  exact ⟨h.notPending, h.lastSample, h.lastValid, edgeService_of_notPending h.notPending⟩

/-- The interrupt is disabled and the schedule `l` does not enable it. -/
structure StaysDisabled (l : List Input) (s : State) : Prop where
  disabled : s.edgeEn = false
  noEnable : ∀ w, .command w ∈ l → decode w ≠ .ok .irqEn

theorem StaysDisabled.perform (h : StaysDisabled (e :: l) s) (ht : perform e s = .next t) : StaysDisabled l t where
  disabled := edgeEn_perform_of_disabled h.disabled (fun w he => h.noEnable w (he ▸ List.mem_cons_self)) ht
  noEnable w hmem := h.noEnable w (List.mem_cons_of_mem e hmem)

theorem StaysDisabled.run {k : Nat} (h : StaysDisabled s.inputs s) (hrun : core.run k s = .next t) :
    StaysDisabled t.inputs t :=
  run_keeps (fun _ _ _ h => { h with }) (fun _ _ _ _ => StaysDisabled.perform) h hrun

/-- Settles O30: each of the three kinds of schedule latches no edge, and without an `IRQ_EN` the interrupt stays
disabled. -/
theorem irqDisKeepsServicesOut : Obligations.IrqDisKeepsServicesOut := by
  refine ⟨fun _ => rfl, fun k s t hen hp hirq hrun => ?_, fun k s t l m hen hp hinputs hirq hedge hrun => ?_,
    fun k s t hp hedge hrun => ?_⟩
  · have hlatch : LatchesNoEdge s.edgeEn s.inputs := hen ▸ .of_noEnable hirq
    have hdisabled : StaysDisabled t.inputs t := StaysDisabled.run ⟨hen, hirq⟩ hrun
    exact ⟨hdisabled.disabled, run_of_latchesNoEdge hp hlatch hrun⟩
  · exact run_of_latchesNoEdge hp ⟨l, m, hinputs, fun _ => hen, hirq, hedge⟩ hrun
  · exact run_of_latchesNoEdge hp (.of_edgeFree hedge) hrun

/-- Settles O29: the command is its one write and the response. -/
theorem irqEnEnables : Obligations.IrqEnEnables := fun _ => rfl

end Sys2Proof.Machine
end

section
/-! SUPPORT. The status bits and the read-outs (spec 10_state.md rule R34, 43_acquisition.md rules R167 to R170 and
R173). -/

namespace Sys2Proof.Machine

/-- Settles O26: the three commands only respond. -/
theorem readoutsReturnTheRegister : Obligations.ReadoutsReturnTheRegister := fun _ => ⟨rfl, rfl, rfl⟩

/-- Settles O28: the command is its two writes and the response. -/
theorem clrStatusClearsTheStickyBits : Obligations.ClrStatusClearsTheStickyBits := fun _ => rfl

/-- The datum of `GET_STATUS` in four parts: bit 31 of the view and the upper half of the datum are one part of
zeros. -/
theorem State.status_setWidth (s : State) :
    s.status.setWidth 64 = (0 : BitVec 33) ++ s.capacityField ++ (0 : Byte) ++ s.flagByte := by
  apply BitVec.eq_of_toNat_eq
  rw [BitVec.toNat_setWidth_of_le (by decide)]
  simp only [State.status, BitVec.toNat_append]
  rfl

theorem exec_getStatus (s : State) : exec .getStatus s =
    .next (s.respond 0x00 ((0 : BitVec 33) ++ s.capacityField ++ (0 : Byte) ++ s.flagByte)) :=
  s.status_setWidth ▸ rfl

/-- The lowest eight bits of a word that ends in the flag byte are the flags in R34's order. -/
theorem State.flagByte_bits {n : Nat} (high : BitVec n) (s : State) :
    (high ++ s.flagByte).getLsbD 0 = s.bufValid ∧ (high ++ s.flagByte).getLsbD 1 = s.winArmed ∧
      (high ++ s.flagByte).getLsbD 2 = s.edgeEn ∧ (high ++ s.flagByte).getLsbD 3 = s.edgePending ∧
      (high ++ s.flagByte).getLsbD 4 = s.start ∧ (high ++ s.flagByte).getLsbD 5 = s.edgeOverrun ∧
      (high ++ s.flagByte).getLsbD 6 = s.busErr ∧ (high ++ s.flagByte).getLsbD 7 = s.lastValid := by
  simp only [State.flagByte, BitVec.getLsbD_append, BitVec.getLsbD_ofBool]
  simp

/-- Settles O27: the datum ends in the flag byte, and each field above it is one part of the datum. -/
theorem getStatusReturnsTheView : Obligations.GetStatusReturnsTheView := by
  intro s
  obtain ⟨h0, h1, h2, h3, h4, h5, h6, h7⟩ := s.flagByte_bits ((0 : BitVec 33) ++ s.capacityField ++ (0 : Byte))
  refine ⟨_, exec_getStatus s, h0, h1, h2, h3, h4, h5, h6, h7, ?_, ?_, ?_⟩
  · rw [BitVec.extractLsb'_append_eq_of_le (by decide)]
    exact BitVec.extractLsb'_append_eq_right
  · rw [BitVec.extractLsb'_append_eq_of_le (by decide), BitVec.extractLsb'_append_eq_of_le (by decide)]
    exact BitVec.extractLsb'_append_eq_right
  · rw [BitVec.extractLsb'_append_eq_of_le (by decide), BitVec.extractLsb'_append_eq_of_le (by decide)]
    exact BitVec.extractLsb'_append_eq_left

end Sys2Proof.Machine
end

section
/-! SUPPORT. The event steps (spec 43_acquisition.md rules R160 to R162), each case by case. -/

namespace Sys2Proof.Machine

variable {s : State}

/-- Settles O33: the register has 32 bits, so the sum is modulo 2^32. -/
theorem tickAdvancesOnlyTime : Obligations.TickAdvancesOnlyTime := fun s => ⟨s.time + 1, BitVec.toNat_add s.time 1, rfl⟩

/-! ### The edge -/

theorem edgeArrives_of_disabled (hen : s.edgeEn = false) : edgeArrives s = .next s := by
  simp [edgeArrives, hen]

theorem edgeArrives_of_enabled (hen : s.edgeEn = true) : edgeArrives s = .next s.latchEdge := by
  simp [edgeArrives, hen]

theorem State.latchEdge_of_notPending (hp : s.edgePending = false) : s.latchEdge = { s with edgePending := true } := by
  simp [State.latchEdge, hp]

theorem State.latchEdge_of_pending (hp : s.edgePending = true) : s.latchEdge = { s with edgeOverrun := true } := by
  simp [State.latchEdge, hp]

/-- Settles O31: an enabled edge is latched, and what that writes depends on the edge that is pending. -/
theorem edgeIsLatchedMergedOrIgnored : Obligations.EdgeIsLatchedMergedOrIgnored := by
  intro s
  refine ⟨edgeArrives_of_disabled, fun hen hp => ?_, fun hen hp => ?_⟩
  · rw [edgeArrives_of_enabled hen, State.latchEdge_of_notPending hp]
  · rw [edgeArrives_of_enabled hen, State.latchEdge_of_pending hp]

/-! ### The service -/

theorem State.rawSample_of_ok (hok : s.exchangeOk (sampleFrame s.params).toList = true) :
    s.rawSample = some (sampleOf (Answer.received (s.deviceAnswer (sampleFrame s.params).toList) 6 (by decide))) :=
  congrArg (Option.map sampleOf) (State.xferResult_of_ok _ hok)

theorem State.rawSample_of_failed (hfail : s.exchangeOk (sampleFrame s.params).toList = false) : s.rawSample = none :=
  congrArg (Option.map sampleOf) (State.xferResult_of_failed _ hfail)

/-- R66: an exchange that succeeds uses up an answer and records its bytes. -/
theorem State.afterRawSample_of_ok (hok : s.exchangeOk (sampleFrame s.params).toList = true) :
    s.afterRawSample = { s with
      answers := s.answers.tail
      trace := s.trace ++ [.xfer (sampleFrame s.params).toList
        (some (Answer.received (s.deviceAnswer (sampleFrame s.params).toList) 6 (by decide)).toList)] } := by
  rw [State.afterRawSample, State.afterXfer, State.xferResult_of_ok _ hok]
  rfl

/-- R66: an exchange that fails uses up an answer and records no bytes. -/
theorem State.afterRawSample_of_failed (hfail : s.exchangeOk (sampleFrame s.params).toList = false) :
    s.afterRawSample = { s with
      answers := s.answers.tail
      trace := s.trace ++ [.xfer (sampleFrame s.params).toList none] } := by
  rw [State.afterRawSample, State.afterXfer, State.xferResult_of_failed _ hfail]
  rfl

/-- Settles O32: the service is a case split on the window predicate and on the outcome of the exchange, which is the
same before and after the writes that precede it. -/
theorem edgeServiceByWindowAndBus : Obligations.EdgeServiceByWindowAndBus := by
  intro s inside tx a hi v sampled
  have houtside (hp : s.edgePending = true) (hnot : ¬ inside) :
      edgeService s = endService s.clearPending.closeWindow.rawSample s.clearPending.closeWindow.afterRawSample :=
    edgeService_of_outside hp (Bool.eq_false_iff.mpr (hnot ∘ State.inWindow_iff.mp))
  have hv : v = sampleOf (Answer.received a 6 (by decide)) := by
    simp only [sampleOf, Answer.received_getElem]
    exact append_sign_eq_assembleSample _ _ _
  have hservice (hp : s.edgePending = true) (hnot : ¬ inside) (hok : s.exchangeOk tx = true) :
      edgeService s = if s.bufValid then sampled.mavAdd v else .next sampled := by
    have hok : s.clearPending.closeWindow.exchangeOk tx = true := hok
    have hlatched : s.clearPending.closeWindow.afterRawSample.latchSample v = sampled := by
      rw [State.afterRawSample_of_ok hok, Answer.received_six]
      rfl
    rw [houtside hp hnot, State.rawSample_of_ok hok, ← hlatched, hv]
    rfl
  refine ⟨edgeService_of_notPending, fun hp hin => edgeService_of_inWindow hp (State.inWindow_iff.mpr hin),
    fun hp hnot hfail => ?_, fun hp hnot hok hb => ?_, fun hp hnot hok hb => ?_⟩
  · have hfail : s.clearPending.closeWindow.exchangeOk tx = false := hfail
    rw [houtside hp hnot, State.rawSample_of_failed hfail, State.afterRawSample_of_failed hfail]
    rfl
  · rw [hservice hp hnot hok, hb]
    rfl
  · rw [hservice hp hnot hok, hb]
    rfl

end Sys2Proof.Machine
end

section
/-! SUPPORT. The field functions and the refusal of codes (spec 44_config_accessors.md rules R192, R194, R195, R199,
R201): a code is valid if it is in its set, and a setter with any other issues no command. -/

namespace Sys2Proof.Machine

variable {p : Params} {valid : List (BitVec 4)} {c : BitVec 4}

/-- Settles O47: the round trips, field by field. -/
theorem fieldFunctionsRoundTrip : Obligations.FieldFunctionsRoundTrip := fun _ b =>
  ⟨fun m => ⟨modeGet_modeSet b m, modeSet_and_mask b m⟩, fun c hc => ⟨rateGet_rateSet hc b, rateSet_and_mask b c⟩,
    fun _ hpos _ hneg => muxUnpack_muxPack hpos hneg⟩

theorem validCode_eq_ite (valid : List (BitVec 4)) (c : BitVec 4) :
    validCode valid c = if c ∈ valid then some c else none := by
  simp [validCode]

theorem validCode_of_not_mem (h : c ∉ valid) : validCode valid c = none := by
  rw [validCode_eq_ite, if_neg h]

/-- The byte of a valid code has an empty high nibble, so it is not `INVALID` (R5). -/
theorem codeByte_some_ne_invalid (p : Params) (c : BitVec 4) : codeByte p (some c) ≠ 0xFF := by
  change (c.setWidth 8 : Byte) ≠ 0xFF
  revert c
  decide

/-- Settles O48: each decoder looks its own code up in its set. -/
theorem unusedCodesDecodeToInvalid : Obligations.UnusedCodesDecodeToInvalid := fun p _ =>
  ⟨validCode_of_not_mem, validCode_of_not_mem, validCode_of_not_mem, validCode_of_mem, validCode_of_mem, rfl,
    codeByte_some_ne_invalid p⟩

/-- A code outside its set and `INVALID` are refused alike (R199, R201). -/
theorem bind_validCode_of_not_mem {c : Option (BitVec 4)} (h : ∀ k, c = some k → k ∉ valid) :
    c.bind (validCode valid) = none :=
  Option.bind_eq_none_iff.mpr fun k hk => validCode_of_not_mem (h k hk)

theorem Sequence.setRate_of_not_mem {c : Option (BitVec 4)} (h : ∀ k, c = some k → k ∉ p.drValid) :
    Sequence.setRate p c = .finished .refusedCode := by
  rw [Sequence.setRate, bind_validCode_of_not_mem h]

theorem Sequence.setMux_of_not_mem {pos neg : Option (BitVec 4)}
    (h : (∀ k, pos = some k → k ∉ p.muxValid) ∨ (∀ k, neg = some k → k ∉ p.muxValid)) :
    Sequence.setMux p pos neg = .finished .refusedCode := by
  obtain hpos | hneg := h
  · rw [Sequence.setMux, bind_validCode_of_not_mem hpos]
  · rw [Sequence.setMux, bind_validCode_of_not_mem hneg]
    cases pos.bind (validCode p.muxValid) <;> rfl

/-- Settles O51: the setter is over before it begins, and a finished sequence issues nothing. -/
theorem invalidCodesIssueNoCommand : Obligations.InvalidCodesIssueNoCommand := by
  refine fun s => ⟨fun c h => ?_, fun pos neg h => ?_⟩
  · rw [Sequence.setRate_of_not_mem h, Session.turn_finished]
  · rw [Sequence.setMux_of_not_mem h, Session.turn_finished]

end Sys2Proof.Machine
end

section
/-! SUPPORT. The register commands with the next answer of the device at hand (spec 41_register_codec.md rules R120,
R121; 20_memory.md rule R66), and the turns of a host that issues them. -/

namespace Sys2Proof.Machine

variable {s : State} {a : Answer} {rest : List Answer} {addr : RegAddr} {value : Byte} {q : Sequence}

/-- What the exchange of a register read leaves, before the response: `rest` of the answers, and its frame with the
bytes received in the trace. -/
def State.afterRead (s : State) (addr : RegAddr) (rest : List Answer) (rx : Option (List Byte)) : State :=
  { s with answers := rest, trace := s.trace ++ [.xfer [0x20 + addr.setWidth 8, 0x00, 0x00] rx] }

/-- What the exchange of a register write leaves: the same with the bracket around its frame, and the pin high. -/
def State.afterWrite (s : State) (addr : RegAddr) (value : Byte) (rest : List Answer) (rx : Option (List Byte)) :
    State :=
  { s with
    start := true, answers := rest
    trace := s.trace ++ [.startLow, .xfer [0x40 + addr.setWidth 8, value] rx, .startHigh] }

/-! ### The commands -/

theorem State.deviceAnswer_of_cons (ha : s.answers = a :: rest) (tx : List Byte) : s.deviceAnswer tx = a := by
  rw [State.deviceAnswer, ha]

theorem State.exchangeOk_of_ok (ha : s.answers = a :: rest) (hok : a.ok = true) (tx : List Byte) :
    s.exchangeOk tx = true := by
  rw [State.exchangeOk, State.deviceAnswer_of_cons ha, hok, Bool.true_or]

theorem State.exchangeOk_of_failed (ha : s.answers = a :: rest) (hfail : a.ok = false)
    (hbus : s.params.busCanFail = true) (tx : List Byte) : s.exchangeOk tx = false := by
  rw [State.exchangeOk, State.deviceAnswer_of_cons ha, hfail, hbus]
  rfl

theorem exec_rreg_of_ok (ha : s.answers = a :: rest) (hok : a.ok = true) : exec (.rreg addr) s =
    .next ((s.afterRead addr rest (some [a.bytes[0], a.bytes[1], a.bytes[2]])).respond 0x00
      (a.bytes[2].setWidth 64)) := by
  obtain ⟨hread, -⟩ := rregReturnsTheThirdByte addr s
  rw [hread (State.exchangeOk_of_ok ha hok _), State.deviceAnswer_of_cons ha, ha]
  rfl

theorem exec_rreg_of_failed (ha : s.answers = a :: rest) (hfail : a.ok = false) (hbus : s.params.busCanFail = true) :
    exec (.rreg addr) s = .next ((s.afterRead addr rest none).respond 0x05 0) := by
  obtain ⟨-, hread, -⟩ := rregReturnsTheThirdByte addr s
  rw [hread (State.exchangeOk_of_failed ha hfail hbus _), ha]
  rfl

theorem exec_wreg_of_ok (ha : s.answers = a :: rest) (hok : a.ok = true) : exec (.wreg addr value) s =
    .next ((s.afterWrite addr value rest (some [a.bytes[0], a.bytes[1]])).respond 0x00 0) := by
  obtain ⟨hwrite, -⟩ := wregBracketsTheWriteFrame addr value s
  have hlow : ({ s with start := false, trace := s.trace ++ [.startLow] } : State).answers = a :: rest := ha
  rw [hwrite (State.exchangeOk_of_ok hlow hok _), State.deviceAnswer_of_cons hlow, ha]
  rfl

theorem exec_wreg_of_failed (ha : s.answers = a :: rest) (hfail : a.ok = false) (hbus : s.params.busCanFail = true) :
    exec (.wreg addr value) s = .next ((s.afterWrite addr value rest none).respond 0x05 0) := by
  obtain ⟨-, hwrite, -⟩ := wregBracketsTheWriteFrame addr value s
  have hlow : ({ s with start := false, trace := s.trace ++ [.startLow] } : State).answers = a :: rest := ha
  rw [hwrite (State.exchangeOk_of_failed hlow hfail hbus _), ha]
  rfl

/-! ### The turns -/

/-- The host goes on with the response that ended its command. -/
theorem Session.turn_of_respond {i : Instr} {t : State} {st : BitVec 8} {data : Data}
    (hc : q.command s.params = some i) (he : exec i s = .next (t.respond st data)) (hp : t.params = s.params) :
    (Session.mk s q).turn .host = .next ⟨t.respond st data, q.resume s.params ⟨st, data⟩⟩ := by
  rw [Session.turn_host (x := ⟨s, q⟩) hc he, Session.afterCommand_respond, hp]

theorem Session.run_cons {x y : Session} {t : Turn} {turns : List Turn} (h : x.turn t = .next y) :
    x.run (t :: turns) = y.run turns := by
  rw [Session.run, h]

/-- A sequence that is over issues nothing, however many turns the host still gets. -/
theorem Session.run_finished (s : State) (r : SeqResult) (n : Nat) :
    (Session.mk s (.finished r)).run (List.replicate n .host) = .next ⟨s, .finished r⟩ := by
  induction n with
  | zero => rfl
  | succ n ih => rw [List.replicate_succ, Session.run_cons (Session.turn_finished s r), ih]

end Sys2Proof.Machine
end

section
/-! SUPPORT. The getters and setters of the device registers (spec 44_config_accessors.md rules R196 to R201): a getter
is one read, a setter one write, and those of the mode and the rate make the written byte from one they read. -/

namespace Sys2Proof.Machine

variable {s : State} {a : Answer} {rest : List Answer} {addr : RegAddr} {value : Byte} {q : Sequence}
  {turns : List Turn}

/-! ### The first turn of a read or a write -/

theorem Session.run_read_of_ok (hc : q.command s.params = some (.rreg addr)) (ha : s.answers = a :: rest)
    (hok : a.ok = true) : (Session.mk s q).run (.host :: turns) =
      (Session.mk ((s.afterRead addr rest (some [a.bytes[0], a.bytes[1], a.bytes[2]])).respond 0x00
        (a.bytes[2].setWidth 64)) (q.resume s.params ⟨0x00, a.bytes[2].setWidth 64⟩)).run turns :=
  Session.run_cons (Session.turn_of_respond hc (exec_rreg_of_ok ha hok) rfl)

theorem Session.run_write_of_ok (hc : q.command s.params = some (.wreg addr value)) (ha : s.answers = a :: rest)
    (hok : a.ok = true) : (Session.mk s q).run (.host :: turns) =
      (Session.mk ((s.afterWrite addr value rest (some [a.bytes[0], a.bytes[1]])).respond 0x00 0)
        (q.resume s.params ⟨0x00, 0⟩)).run turns :=
  Session.run_cons (Session.turn_of_respond hc (exec_wreg_of_ok ha hok) rfl)

/-- The sequences whose next command is a register read or write end on any response but OK. -/
theorem Sequence.resume_of_failed {p : Params} {i : Instr} (hc : q.command p = some i)
    (hi : (∃ addr, i = .rreg addr) ∨ ∃ addr value, i = .wreg addr value) :
    q.resume p ⟨0x05, 0⟩ = .finished (.failed 0x05) := by
  cases q with
  | getMode | setModeRead | setModeWrite | getRate | setRateRead | setRateWrite | getMux | setMuxWrite => rfl
  | _ => cases hc <;> simp at hi

theorem Session.run_read_of_failed (hc : q.command s.params = some (.rreg addr)) (ha : s.answers = a :: rest)
    (hfail : a.ok = false) (hbus : s.params.busCanFail = true) (n : Nat) :
    (Session.mk s q).run (List.replicate (n + 1) .host) =
      .next ⟨(s.afterRead addr rest none).respond 0x05 0, .finished (.failed 0x05)⟩ := by
  rw [List.replicate_succ, Session.run_cons (Session.turn_of_respond hc (exec_rreg_of_failed ha hfail hbus) rfl),
    Sequence.resume_of_failed hc (.inl ⟨_, rfl⟩), Session.run_finished]

theorem Session.run_write_of_failed (hc : q.command s.params = some (.wreg addr value)) (ha : s.answers = a :: rest)
    (hfail : a.ok = false) (hbus : s.params.busCanFail = true) (n : Nat) :
    (Session.mk s q).run (List.replicate (n + 1) .host) =
      .next ⟨(s.afterWrite addr value rest none).respond 0x05 0, .finished (.failed 0x05)⟩ := by
  rw [List.replicate_succ, Session.run_cons (Session.turn_of_respond hc (exec_wreg_of_failed ha hfail hbus) rfl),
    Sequence.resume_of_failed hc (.inr ⟨_, _, rfl⟩), Session.run_finished]

/-! ### The statements -/

/-- Settles O50: one read, and the sequence ends with the field of the third byte or with the fault. -/
theorem gettersDecodeTheAnswer : Obligations.GettersDecodeTheAnswer := by
  intro s a rest ha after code
  refine ⟨fun hok => ⟨?_, ?_, ?_⟩, fun hfail hbus q hq => ?_⟩
  · rw [Session.run_read_of_ok rfl ha hok, Sequence.resume_getMode_ok]
    rfl
  · rw [Session.run_read_of_ok rfl ha hok, Sequence.resume_getRate_ok, rateGet, validCode_eq_ite]
    rfl
  · rw [Session.run_read_of_ok rfl ha hok, Sequence.resume_getMux_ok, muxResult, muxUnpack, validCode_eq_ite,
      validCode_eq_ite]
    rfl
  · have hread : ∃ addr, q.command s.params = some (.rreg addr) := by
      simp only [List.mem_cons, List.not_mem_nil, or_false] at hq
      obtain rfl | rfl | rfl := hq
      · exact ⟨_, rfl⟩
      · exact ⟨_, rfl⟩
      · exact ⟨_, rfl⟩
    obtain ⟨addr, hc⟩ := hread
    exact ⟨_, Session.run_read_of_failed hc ha hfail hbus 0, rfl⟩

/-- A setter that reads its register and writes the byte it makes of it, when both exchanges succeed (R197, R199). -/
theorem Session.run_readModifyWrite {b : Answer} {w : Sequence} (hq : q.command s.params = some (.rreg addr))
    (hqw : q.resume s.params ⟨0x00, a.bytes[2].setWidth 64⟩ = w) (hw : w.command s.params = some (.wreg addr value))
    (ha : s.answers = a :: b :: rest) (haok : a.ok = true) (hbok : b.ok = true) :
    (Session.mk s q).run [.host, .host] = .next ⟨{ s with
      start := true, answers := rest
      trace := s.trace ++ [.xfer [0x20 + addr.setWidth 8, 0x00, 0x00] (some [a.bytes[0], a.bytes[1], a.bytes[2]]),
        .startLow, .xfer [0x40 + addr.setWidth 8, value] (some [b.bytes[0], b.bytes[1]]), .startHigh]
      responses := s.responses ++ [⟨0x00, a.bytes[2].setWidth 64⟩, ⟨0x00, 0⟩] }, w.resume s.params ⟨0x00, 0⟩⟩ := by
  rw [Session.run_read_of_ok hq ha haok, hqw]
  refine (Session.run_write_of_ok (s := (s.afterRead addr (b :: rest) _).respond _ _) hw rfl hbok).trans ?_
  simp [State.afterRead, State.afterWrite, State.respond, Session.run]

/-- Settles O49: a read and a write of one register, or one write. -/
theorem settersSendReadModifyWrite : Obligations.SettersSendReadModifyWrite := by
  intro s a b rest haok hbok written read after replies
  refine ⟨fun m ha => ?_, fun c hc ha => ?_, fun pos hpos neg hneg ha => ?_⟩
  · exact Session.run_readModifyWrite (q := .setMode s.params m) rfl (Sequence.resume_setModeRead_ok _ _ _) rfl ha
      haok hbok
  · rw [Sequence.setRate_of_mem hc]
    exact Session.run_readModifyWrite rfl (Sequence.resume_setRateRead_ok _ _ _) rfl ha haok hbok
  · rw [Sequence.setMux_of_mem hpos hneg]
    exact Session.run_write_of_ok rfl ha haok

/-- Settles O58: the first exchange fails, and it ends the sequence. -/
theorem failedSetterIssuesNothingMore : Obligations.FailedSetterIssuesNothingMore := by
  intro s a rest n hfail hbus ha afterRead afterWrite
  refine ⟨fun m => Session.run_read_of_failed rfl ha hfail hbus n, fun c hc => ?_,
    fun v => ⟨Session.run_write_of_failed rfl ha hfail hbus n, Session.run_write_of_failed rfl ha hfail hbus n⟩,
    fun pos hpos neg hneg => ?_⟩
  · rw [Sequence.setRate_of_mem hc, Session.run_read_of_failed rfl ha hfail hbus n]
    rfl
  · rw [Sequence.setMux_of_mem hpos hneg, Session.run_write_of_failed rfl ha hfail hbus n]
    rfl

end Sys2Proof.Machine
end

section
/-! SUPPORT. Runs of a session (spec 44_config_accessors.md rules R202 to R204; log entry 11): what the turns of the
host, the events and the ticks keep, a run keeps, the ticks being counted. -/

namespace Sys2Proof.Machine

variable {s : State} {t0 : Ticks} {n : Nat}

/-- Everything a turn can be: one of the host, an event of the interrupt, a tick. -/
theorem Session.turn_next {x y : Session} {t : Turn} (h : x.turn t = .next y) :
    (t = .host ∧ x.turn .host = .next y) ∨
      (t ≠ .tick ∧ ∃ e s, (e = .edge ∨ e = .service) ∧ perform e x.block = .next s ∧ y = ⟨s, x.host⟩) ∨
      (t = .tick ∧ y = ⟨x.block.advanceTime, x.host⟩) := by
  cases t with
  | host => exact .inl ⟨rfl, h⟩
  | edge =>
    cases h
    exact .inr (.inl ⟨by decide, .edge, _, .inl rfl, rfl, rfl⟩)
  | service =>
    refine .inr (.inl ⟨by decide, .service, ?_⟩)
    simp only [Session.turn] at h
    split at h
    · next s hs => exact ⟨s, .inr rfl, hs, (Host.Outcome.next.inj h).symm⟩
    · cases h
    · cases h
  | tick => cases h; exact .inr (.inr ⟨rfl, rfl⟩)

/-- A relation between a number of ticks and a session, kept by every turn with its tick counted, holds to the end of a
run. -/
theorem Session.run_keeps {I : Nat → Session → Prop}
    (hhost : ∀ n x y, I n x → x.turn .host = .next y → I n y)
    (hevent : ∀ n s q e t, I n ⟨s, q⟩ → e = .edge ∨ e = .service → perform e s = .next t → I n ⟨t, q⟩)
    (htick : ∀ n s q, I n ⟨s, q⟩ → I (n + 1) ⟨s.advanceTime, q⟩) {turns : List Turn} {x y : Session} (h : I n x)
    (hrun : x.run turns = .next y) : I (n + turns.count .tick) y := by
  induction turns generalizing n x with
  | nil => cases hrun; exact h
  | cons t rest ih =>
    simp only [Session.run] at hrun
    split at hrun
    · next z hturn =>
      obtain ⟨rfl, hz⟩ | ⟨hne, e, s, he, hs, rfl⟩ | ⟨rfl, rfl⟩ := Session.turn_next hturn
      · exact ih (hhost _ _ _ h hz) hrun
      · rw [List.count_cons_of_ne hne]
        exact ih (hevent _ _ _ _ _ h he hs) hrun
      · rw [List.count_cons_self, Nat.add_comm _ 1, ← Nat.add_assoc]
        exact ih (htick _ _ _ h) hrun
    · cases hrun
    · cases hrun

/-! ### The clock -/

/-- The ticks since the time `t0`, as the host counts them: the difference is modulo 2^32 (R202, R203). -/
def State.since (s : State) (t0 : Ticks) : Nat := (s.time - t0).toNat

/-- The count may wrap to 0, and it never gains more than the tick. -/
theorem State.since_advanceTime_le (s : State) (t0 : Ticks) : s.advanceTime.since t0 ≤ s.since t0 + 1 := by
  simp only [State.since, State.advanceTime_time]
  bv_omega

@[simp] theorem Response.ticks_setWidth (st : BitVec 8) (t : Ticks) : Response.ticks ⟨st, t.setWidth 64⟩ = t := by
  simp [Response.ticks]

theorem Session.turn_getTime {q : Sequence} (hc : q.command s.params = some .getTime) :
    (Session.mk s q).turn .host =
      .next ⟨s.respond 0x00 (s.time.setWidth 64), q.resume s.params ⟨0x00, s.time.setWidth 64⟩⟩ :=
  Session.turn_of_respond hc rfl rfl

end Sys2Proof.Machine
end

section
/-! SUPPORT. What an edge and its service leave (spec 43_acquisition.md rules R160, R161; 10_state.md rules R30, R31):
they take no time, close only a window that has expired, and a closed window counts no edge. -/

namespace Sys2Proof.Machine

variable {s t : State} {e : Input}

/-- What an event of the interrupt leaves of the state that `WAIT` and `CALIBRATE` rely on. -/
structure EventFrame (s t : State) : Prop where
  params : t.params = s.params
  time : t.time = s.time
  windowStart : t.windowStart = s.windowStart
  bufValid : t.bufValid = s.bufValid
  cap : t.cap = s.cap
  staysClosed : s.winArmed = false → t.winArmed = false
  edgeCount : s.winArmed = false → t.edgeCount = s.edgeCount
  expired : t.winArmed = false → s.inWindow = false

theorem edgeArrives_eventFrame (h : edgeArrives s = .next t) : EventFrame s t := by
  have hexpired (hc : s.winArmed = false) : s.inWindow = false := State.inWindow_eq_false_iff.mpr (.inl hc)
  obtain ⟨-, rfl⟩ | ⟨-, rfl⟩ := edgeArrives_next h
  · exact ⟨rfl, rfl, rfl, rfl, rfl, id, fun _ => rfl, hexpired⟩
  · exact ⟨rfl, rfl, rfl, rfl, rfl, id, fun _ => rfl, hexpired⟩

/-- A service inside the window counts the edge; outside it closes the window and keeps the count. -/
theorem edgeService_eventFrame (h : edgeService s = .next t) : EventFrame s t := by
  cases hw : s.inWindow with
  | true =>
    obtain ⟨harmed, -⟩ := State.inWindow_iff.mp hw
    have hnot (hc : s.winArmed = false) : False := absurd (harmed.symm.trans hc) (by decide)
    obtain ⟨-, ⟨-, rfl⟩ | ⟨hout, -⟩⟩ := edgeService_next h
    · exact ⟨rfl, rfl, rfl, rfl, rfl, id, fun hc => (hnot hc).elim, fun hc => (hnot hc).elim⟩
    · exact absurd (hw.symm.trans hout) (by decide)
  | false =>
    have hcount := edgeService_edgeCount_of_outside hw h
    cases edgeService_effect h with
    | countEdge hin => exact absurd (hw.symm.trans hin) (by decide)
    | failedRead | latchSample | latchAndPush =>
      exact ⟨rfl, rfl, rfl, rfl, rfl, fun _ => rfl, fun _ => hcount, fun _ => hw⟩

theorem perform_eventFrame (he : e = .edge ∨ e = .service) (h : perform e s = .next t) : EventFrame s t := by
  obtain rfl | rfl := he
  · exact edgeArrives_eventFrame h
  · exact edgeService_eventFrame h

end Sys2Proof.Machine
end

section
/-! SUPPORT. `WAIT` (spec 44_config_accessors.md rule R202): the ticks that its polls have seen never outnumber those
that passed. -/

namespace Sys2Proof.Machine

variable {k n : Nat} {x y : Session}

/-- How far `WAIT k` has come when `n` ticks have passed since its start. -/
inductive WaitProgress (k : Nat) : Nat → Session → Prop where
  | first {n : Nat} {s : State} : WaitProgress k n ⟨s, .waitFirst k⟩
  | again {n : Nat} {s : State} {t0 : Ticks} (hsince : s.since t0 ≤ n) : WaitProgress k n ⟨s, .waitAgain k t0⟩
  | done {n : Nat} {s : State} (hpassed : k ≤ n) : WaitProgress k n ⟨s, .finished .done⟩

theorem WaitProgress.host (h : WaitProgress k n x) (hturn : x.turn .host = .next y) : WaitProgress k n y := by
  cases h with
  | @first s =>
    rw [Session.turn_getTime rfl, Sequence.resume, Response.ticks_setWidth] at hturn
    cases hturn
    exact .again (by simp [State.since])
  | @again s t0 hsince =>
    rw [Session.turn_getTime rfl, Sequence.resume, Response.ticks_setWidth] at hturn
    cases hturn
    split
    · next hk => exact .done (hk.trans hsince)
    · exact .again hsince
  | done hpassed => cases hturn; exact .done hpassed

theorem WaitProgress.event {s t : State} {q : Sequence} {e : Input} (h : WaitProgress k n ⟨s, q⟩)
    (he : e = .edge ∨ e = .service) (ht : perform e s = .next t) : WaitProgress k n ⟨t, q⟩ := by
  cases h with
  | first => exact .first
  | again hsince =>
    refine .again ?_
    rwa [State.since, (perform_eventFrame he ht).time]
  | done hpassed => exact .done hpassed

theorem WaitProgress.tick {s : State} {q : Sequence} (h : WaitProgress k n ⟨s, q⟩) :
    WaitProgress k (n + 1) ⟨s.advanceTime, q⟩ := by
  cases h with
  | first => exact .first
  | again hsince => exact .again ((State.since_advanceTime_le _ _).trans (Nat.add_le_add_right hsince 1))
  | done hpassed => exact .done (Nat.le_succ_of_le hpassed)

/-- Settles O52: the poll that ends the wait has seen `k` ticks since the first. -/
theorem waitLastsItsTicks : Obligations.WaitLastsItsTicks := by
  intro s k turns y hrun hdone
  have hend : WaitProgress k (0 + turns.count .tick) y :=
    Session.run_keeps (I := WaitProgress k) (fun _ _ _ => WaitProgress.host) (fun _ _ _ _ _ => WaitProgress.event)
      (fun _ _ _ => WaitProgress.tick) .first hrun
  rw [Nat.zero_add] at hend
  cases hend with
  | done hpassed => exact hpassed
  | first | again => cases hdone

end Sys2Proof.Machine
end

section
/-! SUPPORT. The commands that end `CALIBRATE` (spec 44_config_accessors.md rules R203, R204(b), R204(c)): the capacity
is twice the number of edges counted. -/

namespace Sys2Proof.Machine

/-- A product that would not fit 32 bits is cut to a number far above every capacity. -/
theorem calibrationCapacity_toNat (n : Nat) : (calibrationCapacity n).toNat = min (2 * n) 0xFFFFFFFF := by
  rw [calibrationCapacity, BitVec.toNat_ofNat, Nat.mod_eq_of_lt (by omega)]

/-- Settles O53: the three cases of `MAV_CREATE` for twice the count. -/
theorem calibrationCreateByCount : Obligations.CalibrationCreateByCount := by
  intro s n
  have hcap := calibrationCapacity_toNat n
  refine ⟨fun hzero => ?_, fun hmany => ?_, fun hpos hle => ⟨(calibrationCapacity n).setWidth 15, ?_, ?_⟩⟩
  · exact Session.turn_of_respond rfl (exec_mavCreate_of_zero (by omega)) rfl
  · exact Session.turn_of_respond rfl (exec_mavCreate_of_gt (by omega)) rfl
  · rw [setWidth_toNat_of_le (by omega)]
    omega
  · exact Session.turn_of_respond rfl (exec_mavCreate_of_le (by omega) (by omega)) rfl

end Sys2Proof.Machine
end

section
/-! SUPPORT. `CALIBRATE` (spec 44_config_accessors.md rules R203, R204): how far it has come, with the ticks that its
polls have seen and the count of its window, which stands still once the window is closed. -/

namespace Sys2Proof.Machine

variable {s t : State} {q : Sequence} {e : Input} {p : Params} {n : Nat} {x y : Session}

/-- The ticks of the settle delay and of the window. -/
def calibrationTicks (p : Params) : Nat := p.settleTicks.toNat + p.windowTicks.toNat

/-- R204(a): the active buffer has twice the capacity of the edge count, which is in the range of `MAV_CREATE`. -/
structure State.SizedByCount (s : State) : Prop where
  bufValid : s.bufValid = true
  cap : s.cap.toNat = 2 * s.edgeCount.toNat
  pos : 1 ≤ s.edgeCount.toNat
  le : s.edgeCount.toNat ≤ 8192

/-- How far `CALIBRATE` has come when `n` ticks have passed since its start. -/
inductive CalProgress (p : Params) : Nat → Session → Prop where
  | command {n : Nat} {s : State} (hp : s.params = p) : CalProgress p n ⟨s, .calCommand⟩
  | settleFirst {n : Nat} {s : State} (hp : s.params = p) : CalProgress p n ⟨s, .calSettleFirst⟩
  | settleAgain {n : Nat} {s : State} {t0 : Ticks} (hp : s.params = p) (hsince : s.since t0 ≤ n) :
      CalProgress p n ⟨s, .calSettleAgain t0⟩
  | openWindow {n : Nat} {s : State} (hp : s.params = p) (hsettled : p.settleTicks.toNat ≤ n) :
      CalProgress p n ⟨s, .calOpen⟩
  | poll {n : Nat} {s : State} (hp : s.params = p) (hsince : p.settleTicks.toNat + s.elapsed ≤ n)
      (hclosed : s.winArmed = false → calibrationTicks p ≤ n) : CalProgress p n ⟨s, .calPoll⟩
  | count {n : Nat} {s : State} (hticks : calibrationTicks p ≤ n) (hclosed : s.winArmed = false) :
      CalProgress p n ⟨s, .calCount⟩
  | create {n : Nat} {s : State} (hticks : calibrationTicks p ≤ n) (hclosed : s.winArmed = false) :
      CalProgress p n ⟨s, .calCreate s.edgeCount.toNat⟩
  | clear {n : Nat} {s : State} (hticks : calibrationTicks p ≤ n) (hclosed : s.winArmed = false)
      (hsized : s.SizedByCount) : CalProgress p n ⟨s, .calClear⟩
  | done {n : Nat} {s : State} (hticks : calibrationTicks p ≤ n) (hclosed : s.winArmed = false)
      (hsized : s.SizedByCount) : CalProgress p n ⟨s, .finished .done⟩
  | failed {n : Nat} {s : State} (st : BitVec 8) : CalProgress p n ⟨s, .finished (.failed st)⟩

/-! ### The events and the ticks -/

theorem EventFrame.sizedByCount (h : EventFrame s t) (hclosed : s.winArmed = false) (hsized : s.SizedByCount) :
    t.SizedByCount where
  bufValid := h.bufValid.trans hsized.bufValid
  cap := by rw [h.cap, h.edgeCount hclosed, hsized.cap]
  pos := by rw [h.edgeCount hclosed]; exact hsized.pos
  le := by rw [h.edgeCount hclosed]; exact hsized.le

/-- A window that is found expired has lasted its ticks (R31). -/
theorem calibrationTicks_le_of_expired (hp : s.params = p) (hsince : p.settleTicks.toNat + s.elapsed ≤ n)
    (hclosed : s.winArmed = false → calibrationTicks p ≤ n) (hexpired : s.inWindow = false) :
    calibrationTicks p ≤ n := by
  obtain hc | hnot := State.inWindow_eq_false_iff.mp hexpired
  · exact hclosed hc
  · have hlasted : p.windowTicks.toNat ≤ s.elapsed := hp ▸ Nat.not_lt.mp hnot
    unfold calibrationTicks
    omega

theorem CalProgress.event (h : CalProgress p n ⟨s, q⟩) (he : e = .edge ∨ e = .service) (ht : perform e s = .next t) :
    CalProgress p n ⟨t, q⟩ := by
  have hframe := perform_eventFrame he ht
  cases h with
  | command hp => exact .command (hframe.params.trans hp)
  | settleFirst hp => exact .settleFirst (hframe.params.trans hp)
  | settleAgain hp hsince => exact .settleAgain (hframe.params.trans hp) (by rwa [State.since, hframe.time])
  | openWindow hp hsettled => exact .openWindow (hframe.params.trans hp) hsettled
  | poll hp hsince hclosed =>
    exact .poll (hframe.params.trans hp) (by rwa [State.elapsed, hframe.time, hframe.windowStart])
      fun hc => calibrationTicks_le_of_expired hp hsince hclosed (hframe.expired hc)
  | count hticks hclosed => exact .count hticks (hframe.staysClosed hclosed)
  | create hticks hclosed =>
    rw [← hframe.edgeCount hclosed]
    exact .create hticks (hframe.staysClosed hclosed)
  | clear hticks hclosed hsized => exact .clear hticks (hframe.staysClosed hclosed) (hframe.sizedByCount hclosed hsized)
  | done hticks hclosed hsized => exact .done hticks (hframe.staysClosed hclosed) (hframe.sizedByCount hclosed hsized)
  | failed st => exact .failed st

theorem CalProgress.tick (h : CalProgress p n ⟨s, q⟩) : CalProgress p (n + 1) ⟨s.advanceTime, q⟩ := by
  cases h with
  | command hp => exact .command hp
  | settleFirst hp => exact .settleFirst hp
  | settleAgain hp hsince => exact .settleAgain hp ((s.since_advanceTime_le _).trans (Nat.add_le_add_right hsince 1))
  | openWindow hp hsettled => exact .openWindow hp (Nat.le_succ_of_le hsettled)
  | poll hp hsince hclosed =>
    have helapsed : s.advanceTime.elapsed ≤ s.elapsed + 1 := s.since_advanceTime_le s.windowStart
    exact .poll hp (by omega) fun hc => Nat.le_succ_of_le (hclosed hc)
  | count hticks hclosed => exact .count (Nat.le_succ_of_le hticks) hclosed
  | create hticks hclosed => exact .create (Nat.le_succ_of_le hticks) hclosed
  | clear hticks hclosed hsized => exact .clear (Nat.le_succ_of_le hticks) hclosed { hsized with }
  | done hticks hclosed hsized => exact .done (Nat.le_succ_of_le hticks) hclosed { hsized with }
  | failed st => exact .failed st

/-! ### The turns of the host -/

theorem State.exists_finish_eq_respond (s : State) (r : Except HostFault Data) :
    ∃ st data, s.finish r = s.respond st data := by
  cases r with
  | ok data => exact ⟨0x00, data, rfl⟩
  | error f => exact ⟨f.code, 0, rfl⟩

/-- The calibration command starts the settle delay or ends the sequence with its fault (R203). -/
theorem CalProgress.host_command (hp : s.params = p) (hturn : (Session.mk s .calCommand).turn .host = .next y) :
    CalProgress p n y := by
  obtain ⟨st, data, hend⟩ := State.exists_finish_eq_respond (s.afterXfer (calibrationFrame s.params))
    (busResult ((s.xferResult (calibrationFrame s.params)).map fun _ => 0))
  rw [Session.turn_of_respond rfl ((exec_sfocal s).trans (congrArg _ hend)) rfl, Sequence.resume,
    Response.orFail] at hturn
  cases hturn
  split
  · exact .settleFirst hp
  · exact .failed st

/-- The create step installs a buffer of twice the count or ends the sequence with its fault (R204). -/
theorem CalProgress.host_create (hticks : calibrationTicks p ≤ n) (hclosed : s.winArmed = false)
    (hturn : (Session.mk s (.calCreate s.edgeCount.toNat)).turn .host = .next y) : CalProgress p n y := by
  obtain ⟨hnone, hmany, hfits⟩ := calibrationCreateByCount s s.edgeCount.toNat
  obtain hzero | hgt | ⟨hpos, hle⟩ :
      s.edgeCount.toNat = 0 ∨ 8192 < s.edgeCount.toNat ∨ 1 ≤ s.edgeCount.toNat ∧ s.edgeCount.toNat ≤ 8192 := by omega
  · cases (hnone hzero).symm.trans hturn
    exact .failed _
  · cases (hmany hgt).symm.trans hturn
    exact .failed _
  · obtain ⟨c, hc, hcreate⟩ := hfits hpos hle
    cases hcreate.symm.trans hturn
    exact .clear hticks hclosed ⟨rfl, hc, hpos, hle⟩

theorem CalProgress.host (h : CalProgress p n x) (hturn : x.turn .host = .next y) : CalProgress p n y := by
  cases h with
  | command hp => exact CalProgress.host_command hp hturn
  | @settleFirst s hp =>
    rw [Session.turn_getTime rfl, Sequence.resume, Response.ticks_setWidth] at hturn
    cases hturn
    exact .settleAgain hp (by simp [State.since])
  | @settleAgain s t0 hp hsince =>
    rw [Session.turn_getTime rfl, Sequence.resume, Response.ticks_setWidth, hp] at hturn
    cases hturn
    split
    · next hsettled => exact .openWindow hp (le_trans (BitVec.le_def.mp hsettled) hsince)
    · exact .settleAgain hp hsince
  | @openWindow s hp hsettled =>
    rw [Session.turn_of_respond rfl (t := s.openWindow) (winOpenStartsTheWindow s) rfl] at hturn
    cases hturn
    exact .poll hp (by simpa [State.elapsed] using hsettled) (fun hc => by cases hc)
  | @poll s hp hsince hclosed =>
    cases hw : s.inWindow with
    | true =>
      rw [Session.turn_of_respond rfl (exec_winPoll_of_inWindow hw) rfl] at hturn
      cases hturn
      exact .poll hp hsince hclosed
    | false =>
      rw [Session.turn_of_respond rfl (exec_winPoll_of_outside hw) rfl] at hturn
      cases hturn
      exact .count (calibrationTicks_le_of_expired hp hsince hclosed hw) rfl
  | @count s hticks hclosed =>
    rw [Session.turn_of_respond (t := s) rfl rfl rfl, Sequence.resume] at hturn
    cases hturn
    rw [BitVec.toNat_setWidth_of_le (by decide)]
    exact .create hticks hclosed
  | create hticks hclosed => exact CalProgress.host_create hticks hclosed hturn
  | @clear s hticks hclosed hsized =>
    rw [Session.turn_of_respond rfl (exec_mavClear_of_buffer hsized.bufValid) rfl] at hturn
    cases hturn
    exact .done hticks hclosed { hsized with }
  | done hticks hclosed hsized => cases hturn; exact .done hticks hclosed hsized
  | failed st => cases hturn; exact .failed st

/-! ### The statements -/

theorem CalProgress.run {turns : List Turn} (hrun : (Session.mk s .calibrate).run turns = .next y) :
    CalProgress s.params (turns.count .tick) y := by
  have hend := Session.run_keeps (I := CalProgress s.params) (n := 0) (fun _ _ _ => CalProgress.host)
    (fun _ _ _ _ _ => CalProgress.event) (fun _ _ _ => CalProgress.tick) (.command rfl) hrun
  rwa [Nat.zero_add] at hend

/-- A calibration that has succeeded is past its window and has installed its buffer. -/
theorem CalProgress.of_done (h : CalProgress p n y) (hdone : y.host = .finished .done) :
    calibrationTicks p ≤ n ∧ y.block.SizedByCount := by
  cases h with
  | done hticks _ hsized => exact ⟨hticks, hsized⟩
  | _ => cases hdone

/-- Settles O54: the buffer is installed for the count of the closed window, and nothing after that changes either. -/
theorem calibrationSizesTheBuffer : Obligations.CalibrationSizesTheBuffer := by
  intro s turns y hrun hdone
  obtain ⟨-, hvalid, hcap, hpos, hle⟩ := (CalProgress.run hrun).of_done hdone
  exact ⟨hvalid, hcap, hpos, hle⟩

/-- Settles O55: the settle polls and the window polls have each seen their ticks. -/
theorem calibrationLasts1100Ticks : Obligations.CalibrationLasts1100Ticks := by
  intro s turns y hrun hdone
  obtain ⟨hticks, -⟩ := (CalProgress.run hrun).of_done hdone
  refine ⟨hticks, fun hsettle hwindow => ?_⟩
  rw [calibrationTicks, hsettle, hwindow] at hticks
  exact hticks

end Sys2Proof.Machine
end

section
/-! SUPPORT. The edge service and its limits (spec 60_exceptions.md rule R228, 42_moving_average.md rule R146,
43_acquisition.md rule R161): each of its four kinds of writes stays within them. -/

namespace Sys2Proof.Machine

variable {s t : State}

/-- A push adds an entry or replaces one. -/
theorem State.mavAdd_count {v : Sample} (h : s.mavAdd v = .next t) : t.count = s.count ∨ t.count = s.count + 1 := by
  obtain ⟨-, rfl⟩ | ⟨_, -, -, rfl⟩ := State.mavAdd_next h
  · exact .inr rfl
  · exact .inl rfl

/-- Settles O34: an edge in the window is counted; outside it there is one exchange, and only a push, which needs a
buffer, writes the registers of the buffer. -/
theorem serviceStaysWithinItsRights : Obligations.ServiceStaysWithinItsRights := by
  intro s t h
  cases edgeService_effect h with
  | countEdge | failedRead | latchSample => simp
  | latchAndPush hb hm =>
    have hbuffer : s.bufValid = true := hb
    simpa [hbuffer] using State.mavAdd_count hm

end Sys2Proof.Machine
end

section
/-! SUPPORT. The causes of the faults (spec 60_exceptions.md rules R221, R222): the table of faults as a function of the
command and the state, and that the status of the response is its entry. -/

namespace Sys2Proof.Machine

variable {s t : State} {i : Instr} {f : HostFault}

/-! ### The table of faults -/

/-- The fault of a codec command whose frame is `tx` (R120 to R123). -/
def State.busFault (s : State) (tx : List Byte) : Option HostFault := if s.exchangeOk tx then none else some .busError

/-- The fault of a buffer command (R142 to R145). -/
def State.bufferFault (s : State) : Option HostFault := if s.bufValid then none else some .noBuffer

/-- The fault of `MAV_CREATE` (R140). -/
def capacityFault (cap : BitVec 32) : Option HostFault :=
  if cap.toNat = 0 then some .invalidCapacity else if 16384 < cap.toNat then some .capacityExceeded else none

/-- R140: none, too many, or in the range of `MAV_CREATE`. -/
theorem capacity_cases (cap : BitVec 32) :
    cap.toNat = 0 ∨ 16384 < cap.toNat ∨ 1 ≤ cap.toNat ∧ cap.toNat ≤ 16384 := by omega

theorem capacityFault_of_zero {cap : BitVec 32} (h : cap.toNat = 0) : capacityFault cap = some .invalidCapacity :=
  if_pos h

theorem capacityFault_of_gt {cap : BitVec 32} (h : 16384 < cap.toNat) :
    capacityFault cap = some .capacityExceeded := (if_neg (by omega)).trans (if_pos h)

theorem capacityFault_of_le {cap : BitVec 32} (hpos : 1 ≤ cap.toNat) (hle : cap.toNat ≤ 16384) :
    capacityFault cap = none := (if_neg (by omega)).trans (if_neg (Nat.not_lt.mpr hle))

/-- The fault that a command responds in the state `s`, if any (R221). -/
def State.commandFault (s : State) : Instr → Option HostFault
  | .rreg addr => s.busFault [0x20 + addr.setWidth 8, 0x00, 0x00]
  | .wreg addr value => s.startLow.busFault [0x40 + addr.setWidth 8, value]
  | .rdata => s.busFault [0x12, 0x00, 0x00, 0x00, 0x00, 0x00]
  | .sfocal => s.busFault [0x19, 0x00]
  | .mavCreate cap => capacityFault cap
  | .mavAdd _ | .mavAvg | .mavClear | .mavSnap => s.bufferFault
  | .winOpen | .winPoll | .getLast | .getCount | .getStatus | .clrStatus | .irqEn | .irqDis | .getTime => none

/-- The status code of a response: OK or the code of the fault (R221). -/
def statusOf : Option HostFault → BitVec 8
  | none => 0x00
  | some f => f.code

theorem HostFault.code_injective : Function.Injective HostFault.code := by
  intro f g
  cases f <;> cases g <;> simp [HostFault.code]

/-- A status names its fault: the codes differ from each other and from OK. -/
theorem statusOf_eq_code_iff {o : Option HostFault} : statusOf o = f.code ↔ o = some f := by
  cases o with
  | none => cases f <;> simp [statusOf, HostFault.code]
  | some g => simp [statusOf, HostFault.code_injective.eq_iff]

/-! ### The response is the entry of the table -/

/-- The next state `t` has one response more than `s`, with the status of `o`. -/
def RespondsStatus (s : State) (o : Option HostFault) (t : State) : Prop :=
  ∃ d, t.responses = s.responses ++ [⟨statusOf o, d⟩]

theorem endCodec_respondsStatus {n : Nat} {tx : Vector Byte n} {k : Vector Byte n → Data} (hn : n ≤ 6)
    (h : endCodec ((s.xferResult tx hn).map k) (s.afterXfer tx hn) = .next t) :
    RespondsStatus s (s.busFault tx.toList) t := by
  unfold State.busFault
  cases hok : s.exchangeOk tx.toList with
  | true => cases (endCodec_of_ok hn hok).symm.trans h; exact ⟨_, rfl⟩
  | false => cases (endCodec_of_failed hn hok).symm.trans h; exact ⟨_, rfl⟩

theorem exec_respondsStatus (h : exec i s = .next t) : RespondsStatus s (s.commandFault i) t := by
  cases i with
  | rdata => exact endCodec_respondsStatus _ (exec_rdata s ▸ h)
  | sfocal => exact endCodec_respondsStatus _ (exec_sfocal s ▸ h)
  | rreg addr => exact endCodec_respondsStatus _ (exec_rreg addr s ▸ h)
  | wreg addr value =>
    obtain ⟨u, hu, rfl⟩ := andThen_eq_next.mp (exec_wreg addr value s ▸ h)
    exact endCodec_respondsStatus _ hu
  | mavCreate cap =>
    rw [State.commandFault]
    obtain ⟨hzero, rfl⟩ | ⟨hgt, rfl⟩ | ⟨hpos, hle, rfl⟩ := execMavCreate_next h
    · rw [capacityFault_of_zero hzero]; exact ⟨_, rfl⟩
    · rw [capacityFault_of_gt hgt]; exact ⟨_, rfl⟩
    · rw [capacityFault_of_le hpos hle]; exact ⟨_, rfl⟩
  | mavAdd v =>
    rw [State.commandFault, State.bufferFault]
    obtain ⟨hb, rfl⟩ | ⟨hb, u, hu, rfl⟩ := execMavAdd_next h
    · rw [hb]; exact ⟨_, rfl⟩
    · rw [hb]; exact ⟨0, congrArg (· ++ _) (State.mavAdd_responses hu)⟩
  | mavAvg | mavClear | mavSnap =>
    rw [State.commandFault, State.bufferFault]
    cases h
    split
    · exact ⟨_, rfl⟩
    · exact ⟨_, rfl⟩
  | winPoll =>
    cases h
    split
    · exact ⟨_, rfl⟩
    · exact ⟨_, rfl⟩
  | _ => cases h; exact ⟨_, rfl⟩

/-! ### Which commands have which entries

An entry belongs to the commands whose arm of the table can give it: each fact is a split over the commands. -/

@[simp] theorem State.busFault_eq_some {tx : List Byte} :
    s.busFault tx = some f ↔ .busError = f ∧ s.exchangeOk tx = false := by
  simp [State.busFault, and_comm]

@[simp] theorem State.bufferFault_eq_some : s.bufferFault = some f ↔ .noBuffer = f ∧ s.bufValid = false := by
  simp [State.bufferFault, and_comm]

@[simp] theorem capacityFault_eq_some {cap : BitVec 32} :
    capacityFault cap = some f ↔
      .invalidCapacity = f ∧ cap.toNat = 0 ∨ .capacityExceeded = f ∧ 16384 < cap.toNat := by
  obtain hzero | hgt | ⟨hpos, hle⟩ := capacity_cases cap
  · simp [capacityFault_of_zero hzero, hzero]
  · simp [capacityFault_of_gt hgt, hgt, Nat.ne_zero_of_lt hgt]
  · simp [capacityFault_of_le hpos hle, Nat.not_lt.mpr hle, Nat.ne_zero_of_lt hpos]

theorem State.commandFault_ne_illegalCommand : s.commandFault i ≠ some .illegalCommand := by
  cases i <;> simp [State.commandFault]

theorem State.commandFault_eq_invalidCapacity :
    s.commandFault i = some .invalidCapacity ↔ ∃ cap, i = .mavCreate cap ∧ cap.toNat = 0 := by
  cases i <;> simp [State.commandFault]

theorem State.commandFault_eq_capacityExceeded :
    s.commandFault i = some .capacityExceeded ↔ ∃ cap, i = .mavCreate cap ∧ 16384 < cap.toNat := by
  cases i <;> simp [State.commandFault]

theorem State.commandFault_eq_noBuffer :
    s.commandFault i = some .noBuffer ↔
      s.bufValid = false ∧ ((∃ v, i = .mavAdd v) ∨ i = .mavAvg ∨ i = .mavClear ∨ i = .mavSnap) := by
  cases i <;> simp [State.commandFault]

theorem State.commandFault_eq_busError :
    s.commandFault i = some .busError ↔
      (∃ a, i = .rreg a ∧ s.exchangeOk [0x20 + a.setWidth 8, 0x00, 0x00] = false) ∨
      (∃ a v, i = .wreg a v ∧ s.startLow.exchangeOk [0x40 + a.setWidth 8, v] = false) ∨
      (i = .rdata ∧ s.exchangeOk [0x12, 0x00, 0x00, 0x00, 0x00, 0x00] = false) ∨
      (i = .sfocal ∧ s.exchangeOk [0x19, 0x00] = false) := by
  cases i <;> simp [State.commandFault]

/-- R66: an exchange fails only on a bus that can fail. -/
theorem State.busCanFail_of_failed {tx : List Byte} (h : s.exchangeOk tx = false) : s.params.busCanFail = true := by
  rw [State.exchangeOk, Bool.or_eq_false_iff, Bool.not_eq_false'] at h
  exact h.2

theorem State.busCanFail_of_busError (h : s.commandFault i = some .busError) : s.params.busCanFail = true := by
  obtain ⟨_, -, hfail⟩ | ⟨_, _, -, hfail⟩ | ⟨-, hfail⟩ | ⟨-, hfail⟩ := State.commandFault_eq_busError.mp h
  · exact State.busCanFail_of_failed hfail
  · exact State.busCanFail_of_failed (s := s.startLow) hfail
  · exact State.busCanFail_of_failed hfail
  · exact State.busCanFail_of_failed hfail

/-- Settles O36: a word that is no command has the first code, and a command the code of its entry in the table. -/
theorem faultsHaveTheirCauses : Obligations.FaultsHaveTheirCauses := by
  intro w s t r h hr
  cases hd : decode w with
  | error e =>
    simp only [perform, hd, Host.Outcome.next.injEq] at h
    subst h
    obtain rfl : ⟨0x01, 0⟩ = r := by simpa [HostFault.code] using hr
    simp
  | ok i =>
    obtain ⟨d, hresponse⟩ := exec_respondsStatus (perform_of_decode hd ▸ h)
    obtain rfl : ⟨statusOf (s.commandFault i), d⟩ = r := by simpa using hresponse.symm.trans hr
    have hcode (f : HostFault) : statusOf (s.commandFault i) = f.code ↔ s.commandFault i = some f :=
      statusOf_eq_code_iff
    simp only [Except.ok.injEq]
    refine ⟨?_, (hcode .invalidCapacity).trans State.commandFault_eq_invalidCapacity,
      (hcode .capacityExceeded).trans State.commandFault_eq_capacityExceeded,
      (hcode .noBuffer).trans State.commandFault_eq_noBuffer,
      (hcode .busError).trans State.commandFault_eq_busError,
      fun hbus => State.busCanFail_of_busError ((hcode .busError).mp hbus)⟩
    exact iff_of_false (fun hst => State.commandFault_ne_illegalCommand ((hcode .illegalCommand).mp hst))
      fun hnone => hnone i rfl

end Sys2Proof.Machine
end

section
/-! SUPPORT. No stop under the invariants (spec 60_exceptions.md rule R220, 20_memory.md rule R70): the one operation
that can stop is a push, and the invariants give it the entry it evicts. -/

namespace Sys2Proof.Machine

variable {s : State} {e : Input}

theorem BlockInv.exists_mavAdd (h : BlockInv s) (hb : s.bufValid = true) (v : Sample) : ∃ t, s.mavAdd v = .next t := by
  obtain ⟨t, ht, -⟩ := (h.holdsQueue hb).mavAdd v
  exact ⟨t, ht⟩

theorem BlockInv.exists_exec (h : BlockInv s) (i : Instr) : ∃ t, exec i s = .next t := by
  cases i with
  | mavAdd v =>
    cases hb : s.bufValid with
    | false => exact ⟨_, exec_mavAdd_of_noBuffer v hb⟩
    | true =>
      obtain ⟨t, ht⟩ := h.exists_mavAdd hb v
      exact ⟨_, (exec_mavAdd_of_buffer v hb).trans (andThen_eq_next.mpr ⟨t, ht, rfl⟩)⟩
  | mavCreate cap =>
    obtain hzero | hgt | ⟨hpos, hle⟩ := capacity_cases cap
    · exact ⟨_, exec_mavCreate_of_zero hzero⟩
    · exact ⟨_, exec_mavCreate_of_gt hgt⟩
    · exact ⟨_, exec_mavCreate_of_le hpos hle⟩
  | _ => exact ⟨_, rfl⟩

/-- What follows the exchange of a service gives a next state, whatever the exchange gave. -/
theorem BlockInv.exists_endService (h : BlockInv s) (r : Option Sample) : ∃ t, endService r s = .next t := by
  cases r with
  | none => exact ⟨_, rfl⟩
  | some v =>
    cases hb : s.bufValid with
    | false => exact ⟨_, if_neg (by simp [hb])⟩
    | true =>
      obtain ⟨t, ht⟩ := (h.latchSample v).exists_mavAdd hb v
      exact ⟨t, (if_pos hb).trans ht⟩

theorem BlockInv.exists_edgeService (h : BlockInv s) (hp : s.edgePending = true) : ∃ t, edgeService s = .next t := by
  cases hw : s.inWindow with
  | true => exact ⟨_, edgeService_of_inWindow hp hw⟩
  | false =>
    rw [edgeService_of_outside hp hw]
    exact (h.clearPending.closeWindow.afterXfer _ _).exists_endService _

theorem BlockInv.exists_perform (h : BlockInv s) (henabled : e = .service → s.edgePending = true) :
    ∃ t, Sys2Proof.Machine.perform e s = .next t := by
  cases e with
  | command w =>
    cases hd : decode w with
    | ok i => exact perform_of_decode hd ▸ h.exists_exec i
    | error f => exact ⟨s.raise .illegalCommand, by rw [Sys2Proof.Machine.perform, hd]⟩
  | edge => exact ⟨_, rfl⟩
  | service => exact h.exists_edgeService (henabled rfl)
  | tick => exact ⟨_, rfl⟩

/-- Settles O46: a step waits or performs an input that is enabled. -/
theorem invariantStatesNeverStop : Obligations.InvariantStatesNeverStop := by
  intro s h henabled
  cases hin : s.inputs with
  | nil => exact ⟨s, step_of_no_input hin⟩
  | cons e rest =>
    rw [step_of_input hin]
    exact (h.withInputs rest).exists_perform fun he => henabled (by rw [hin, he]; rfl)

end Sys2Proof.Machine
end

section
/-! SUPPORT. The state after reset (spec rule R260): its status view and the two events on it. -/

namespace Sys2Proof.Machine

/-- Of the flags only the start pin is set, and without a buffer the capacity field is 0 (R34). -/
theorem State.resetWith_status (p : Params) (now : Ticks) : (State.resetWith p now).status = 0x00000010 := by
  have hcapacity : (State.resetWith p now).capacityField = 0 := rfl
  have hflags : (State.resetWith p now).flagByte = 0x10 := by simp [State.flagByte, State.resetWith]
  simp [State.status, hcapacity, hflags]

theorem edgeArrives_resetWith (p : Params) (now : Ticks) :
    edgeArrives (State.resetWith p now) = .next (State.resetWith p now) :=
  edgeArrives_of_disabled rfl

theorem edgeService_resetWith (p : Params) (now : Ticks) :
    edgeService (State.resetWith p now) = .refused .serviceNotEnabled :=
  edgeService_of_notPending rfl

/-- Settles O43: the registers are the fields of the reset record, the interrupt is disabled and no edge is pending. -/
theorem resetIsQuiet : Obligations.ResetIsQuiet := fun p now =>
  ⟨rfl, rfl, rfl, rfl, rfl, rfl, rfl, rfl, rfl, rfl, rfl, rfl, rfl, rfl, rfl, rfl,
    State.resetWith_status p now, rfl, edgeArrives_resetWith p now, edgeService_resetWith p now⟩

end Sys2Proof.Machine
end
